-- ==== Sys2Proof/Word.lean ====
section
/-! DEFINITION. The word types of the block: a stream byte, the 16-bit CRC accumulator, the 11-bit transaction. -/

namespace Sys2Proof

/-- A byte of the serial stream or of a frame (`00_scope.md` R13, `20_memory.md` R46). -/
abbrev Byte := BitVec 8

/-- The CRC accumulator, "a native 16-bit unsigned accumulator" (`40_crc16.md` R100). -/
abbrev Crc := BitVec 16

/-- The input transaction word `txn[10:0]` (`30_encoding.md` R60). -/
abbrev Txn := BitVec 11

end Sys2Proof
end

