-- ==== Sys2Proof/Config.lean ====
section
/-! DEFINITION. The parameters of `00_scope.md` R5 to R12, the reference configuration, and the values the spec leaves
open altogether. -/

namespace Sys2Proof

/-- The link state, two bits on the `ls_out` port (`10_state.md` R24). -/
inductive LinkState where
  /-- "driver has just sent a reset command and is waiting for the device's post-reset handshake frame" -/
  | init
  /-- "steady state, all complete frames are measurement data" -/
  | read
  /-- the "undefined/unknown state", code `10` -/
  | undef2
  /-- the "undefined/unknown state", code `11` -/
  | undef3
deriving DecidableEq, Repr

/-- A byte order (`00_scope.md` R7). -/
inductive ByteOrder where
  | le
  | be
deriving DecidableEq, Repr

/-- Where one RawFrame field lies: its offset and its width, both in bytes (`00_scope.md` R6). -/
structure FieldSpan where
  offset : Nat
  width : Nat
deriving DecidableEq, Repr

/-- `LAYOUT`: the span of every RawFrame field but `crc` (`00_scope.md` R6, `30_encoding.md` R66). -/
structure Layout where
  flags : FieldSpan
  voltage : FieldSpan
  current : FieldSpan
  phase : FieldSpan
  temperature : FieldSpan
  timestamp : FieldSpan
  reserved : FieldSpan
  error : FieldSpan
deriving DecidableEq, Repr

/-- The parameter set of one block instance, "fixed for the life of a block instance" (`10_state.md` R30,
`00_scope.md` R5 to R10). Its constraints are `Config.wf`. -/
structure Config where
  /-- `FRAME_LEN` (R5) -/
  frameLen : Nat
  /-- `LAYOUT` (R6) -/
  layout : Layout
  /-- `FIELD_ORDER` (R7) -/
  fieldOrder : ByteOrder
  /-- `CRC_ORDER` (R7) -/
  crcOrder : ByteOrder
  /-- `OCC_BIT`, "in `0..7`" (R8) -/
  occBit : Fin 8
  /-- `RELAY_BIT`, "in `0..7`" (R8) -/
  relayBit : Fin 8
  /-- `RTC_W` (R9) -/
  rtcW : Nat
  /-- `LS_RESET` (R10) -/
  lsReset : LinkState
  /-- `EPOCH_RESET`, "an `RTC_W`-bit value" (R10) -/
  epochReset : BitVec rtcW
deriving DecidableEq, Repr

/-- The reference layout of `30_encoding.md` R67. -/
def Layout.ref : Layout where
  flags := ⟨0, 1⟩
  voltage := ⟨1, 2⟩
  current := ⟨3, 2⟩
  phase := ⟨5, 2⟩
  temperature := ⟨7, 2⟩
  timestamp := ⟨9, 4⟩
  reserved := ⟨13, 1⟩
  error := ⟨14, 1⟩

/-- REFCFG (`00_scope.md` R12): "the spec's own choice and no source supports its values". The configuration of
`Machine.State.reset`, nothing else (DESIGN CHOICE, log entry 2, unsafe for a claim about that one state). -/
def Config.ref : Config where
  frameLen := 17
  layout := Layout.ref
  fieldOrder := .le
  crcOrder := .le
  occBit := 0
  relayBit := 1
  rtcW := 32
  lsReset := .init
  epochReset := 0

/-- The unspecified contents of the frame buffer (`10_state.md` R29, `00_scope.md` R16: the one draw inside the block):
the byte at an index after the given number of draws. A free value, without a body (DESIGN CHOICE, log entry 6, safe). -/
opaque Config.fbUnspecified : Nat → Nat → Byte

/-- `SETTLE_DELAY` of the command consumer (`00_scope.md` R11): OPEN, no rule of the block reads it (log entry 12). -/
opaque Config.settleDelay : Nat

/-- `CMD_TYPE_SYNC_TIME` of the command consumer (`00_scope.md` R11): OPEN (log entry 12). -/
opaque Config.cmdTypeSyncTime : BitVec 4

/-- `CMD_TYPE_ENABLE_STREAMING` of the command consumer (`00_scope.md` R11): OPEN (log entry 12). -/
opaque Config.cmdTypeEnableStreaming : BitVec 4

/-- `ENABLE_STREAMING_PAYLOAD` of the command consumer (`00_scope.md` R11): OPEN (log entry 12). -/
opaque Config.enableStreamingPayload : Byte

end Sys2Proof
end

