-- ==== Sys2Proof/Syntax.lean ====
section
/-! DEFINITION. The operations of the block: one constructor per row of `opcode_table.json`. -/

namespace Sys2Proof

/-- One input transaction as the block classifies it (`30_encoding.md` R61 to R63). The four FEED rows are told apart by
the byte and by `ESC` at the start of the step; the two reserved rows keep every bit the pattern leaves open. -/
inductive Instr where
  /-- FEED_LITERAL, `41_deframer.md` R121: an escaped byte, any value. -/
  | feedLiteral (b : Byte)
  /-- FEED_ESCAPE, `41_deframer.md` R122: the escape sentinel. -/
  | feedEscape
  /-- FEED_START, `41_deframer.md` R123: the start sentinel. -/
  | feedStart
  /-- FEED_DATA, `41_deframer.md` R124: an ordinary payload byte. -/
  | feedData (b : Byte)
  /-- LINK_INIT, `42_link_fsm.md` R144. -/
  | linkInit
  /-- LINK_READ, `42_link_fsm.md` R145. -/
  | linkRead
  /-- RESET, `70_reset_and_hazards.md` R220. -/
  | reset
  /-- RESERVED_KIND, `60_exceptions.md` R202: `kind = 1kk`, any data. -/
  | reservedKind (k : BitVec 2) (data : Byte)
  /-- RESERVED_DATA, `60_exceptions.md` R202: `kind = 0kk` with `kk` not `00`, data not `0x00`. -/
  | reservedData (k : BitVec 2) (data : Byte)
deriving DecidableEq, Repr

end Sys2Proof
end

