-- ==== Sys2Proof/WellFormed.lean ====
section
/-! DEFINITION. What a well-formed operation and a well-formed configuration are. -/

namespace Sys2Proof

/-- The operands a row of the opcode table admits: FEED_DATA carries `0x00 .. 0xFD` (`41_deframer.md` R124), RESERVED_DATA
a kind in `001 .. 011` and non-zero data (`30_encoding.md` R62); every other operand is free. -/
def Instr.wf : Instr → Bool
  | .feedLiteral _ => true
  | .feedEscape => true
  | .feedStart => true
  | .feedData b => decide (b.toNat ≤ 0xFD)
  | .linkInit => true
  | .linkRead => true
  | .reset => true
  | .reservedKind _ _ => true
  | .reservedData k d => decide (k ≠ 0) && decide (d ≠ 0)

/-- The condition on `ESC` of each row of the opcode table (`30_encoding.md` R63): FEED_LITERAL is the row for `ESC = 1`,
the other FEED rows are for `ESC = 0`, the rest do not read `ESC`. -/
def Instr.escOk (esc : Bool) : Instr → Bool
  | .feedLiteral _ => esc
  | .feedEscape => !esc
  | .feedStart => !esc
  | .feedData _ => !esc
  | .linkInit => true
  | .linkRead => true
  | .reset => true
  | .reservedKind _ _ => true
  | .reservedData _ _ => true

/-- The fields of a layout in the source's order (`30_encoding.md` R66). -/
def Layout.fields (l : Layout) : List FieldSpan :=
  [l.flags, l.voltage, l.current, l.phase, l.temperature, l.timestamp, l.reserved, l.error]

/-- Two spans share no byte. -/
abbrev FieldSpan.apart (f g : FieldSpan) : Prop :=
  f.offset + f.width ≤ g.offset ∨ g.offset + g.width ≤ f.offset

/-- The constraints of `00_scope.md` R6 on a layout: (a) every field inside bytes `0 .. FRAME_LEN-3`, (b) no two fields
overlap, (c) `flags` is one byte, (d) every width is 1 to 4, (e) the timestamp fits in `RTC_W` bits. The order of the
fields that R6 and R66 name is no constraint here: offsets need not rise in it (DESIGN CHOICE, log entry 19, safe). -/
abbrev Layout.wf (frameLen rtcW : Nat) (l : Layout) : Prop :=
  (∀ f ∈ l.fields, f.offset + f.width ≤ frameLen - 2) ∧
  l.fields.Pairwise FieldSpan.apart ∧
  l.flags.width = 1 ∧
  (∀ f ∈ l.fields, 1 ≤ f.width ∧ f.width ≤ 4) ∧
  l.timestamp.width * 8 ≤ rtcW

/-- The constraints of `00_scope.md` R5, R6 and R8 on a parameter set. -/
abbrev Config.wf (c : Config) : Prop :=
  3 ≤ c.frameLen ∧ c.layout.wf c.frameLen c.rtcW ∧ c.occBit ≠ c.relayBit

end Sys2Proof
end

