-- ==== Sys2Proof/Decode.lean ====
section
/-! DEFINITION. From a transaction word to an operation and back (`30_encoding.md` R60 to R63). -/

namespace Sys2Proof

/-- `ESCAPE_SENTINEL` (`00_scope.md` R17); a literal the requester calls unaudited (log entry 18). -/
def escapeSentinel : Byte := 0xFE

/-- `START_SENTINEL` (`00_scope.md` R17); a literal the requester calls unaudited (log entry 18). -/
def startSentinel : Byte := 0xFF

/-- The field `kind = txn[10:8]` (`30_encoding.md` R60). -/
def txnKind (w : Txn) : BitVec 3 := w.extractLsb' 8 3

/-- The field `data = txn[7:0]` (`30_encoding.md` R60). -/
def txnData (w : Txn) : Byte := w.extractLsb' 0 8

/-- A transaction word from its two fields (`30_encoding.md` R60). -/
def mkTxn (kind : BitVec 3) (data : Byte) : Txn := kind ++ data

/-- The classes of a FEED byte "in priority order" (`30_encoding.md` R63, `41_deframer.md` R120). -/
def decodeFeed (esc : Bool) (b : Byte) : Instr :=
  if esc then .feedLiteral b
  else if b = escapeSentinel then .feedEscape
  else if b = startSentinel then .feedStart
  else .feedData b

/-- The operation a word stands for, given `ESC` at the start of the step. Total: a reserved word is an operation of its
own, which the machine refuses (`30_encoding.md` R61, R62). -/
def decode (esc : Bool) (w : Txn) : Instr :=
  let kind := txnKind w
  let data := txnData w
  if kind = 0 then decodeFeed esc data
  else if 4 ≤ kind.toNat then .reservedKind (kind.setWidth 2) data
  else if data ≠ 0 then .reservedData (kind.setWidth 2) data
  else if kind = 1 then .linkInit
  else if kind = 2 then .linkRead
  else .reset

/-- The word of an operation (`30_encoding.md` R61, R62). -/
def encode : Instr → Txn
  | .feedLiteral b => mkTxn 0 b
  | .feedEscape => mkTxn 0 escapeSentinel
  | .feedStart => mkTxn 0 startSentinel
  | .feedData b => mkTxn 0 b
  | .linkInit => mkTxn 1 0
  | .linkRead => mkTxn 2 0
  | .reset => mkTxn 3 0
  | .reservedKind k d => mkTxn (1#1 ++ k) d
  | .reservedData k d => mkTxn (0#1 ++ k) d

/-- Why a number is not a transaction word. -/
inductive DecodeError where
  /-- A bit above bit 10 is set: "an 11-bit word" (`30_encoding.md` R60). Safe: no transaction is invented for it. -/
  | widerThanElevenBits
deriving DecidableEq, Repr

/-- Decoding of any number: a number of more than 11 bits is no transaction (log entry 11). -/
def decodeNat (esc : Bool) (n : Nat) : Except DecodeError Instr :=
  if n < 2 ^ 11 then .ok (decode esc (BitVec.ofNat 11 n)) else .error .widerThanElevenBits

/-- The operation this decoder reads from a word of the opcode table, with `ESC = 0`, the value after reset
(log entry 9). -/
def decodeTableWord (nbits w : Nat) : Option Instr :=
  (decodeNat false (w % 2 ^ nbits)).toOption

end Sys2Proof
end

