-- ==== Sys2Proof/Machine/State.lean ====
section
/-! DEFINITION. The state of the block: the five registers of `10_state.md` R20, what stands on its ports, and the
reasons a step can stop. -/

namespace Sys2Proof.Machine

/-- The frame buffer as the bytes written to it since its contents were last unspecified, by rising index
(`10_state.md` R23, `20_memory.md` R40). An index not listed holds no specified byte. -/
abbrev Memory := List Host.Cell

/-- What an unlisted index holds, as the memory tells it: no specified byte (`10_state.md` R29). Every use of such a byte
goes through `Block.fbByte`, which makes it a free value (log entry 6). -/
abbrev Memory.unlisted : Option Byte := none

/-- A command request on `cmd_out` (`30_encoding.md` R73). -/
inductive Command where
  /-- `SYNC_TIME(offset)`, "with an 8-bit `offset`" -/
  | syncTime (offset : Byte)
  /-- `ENABLE_STREAMING`, "with no operand" -/
  | enableStreaming
deriving DecidableEq, Repr

/-- An action on `act_out` (`30_encoding.md` R71). -/
inductive Action (c : Config) where
  | discardBadCrc
  | discardBadState
  /-- "The HANDSHAKE action carries the new `EPOCH` value." -/
  | handshake (epoch : BitVec c.rtcW)
  /-- "The FRAME_READY action comes with `rec_out`." -/
  | frameReady
deriving DecidableEq, Repr

/-- The value on `rec_out` (`30_encoding.md` R70): every measurement field as the raw bits of its layout width. -/
structure ParsedRecord (c : Config) where
  occupancy : Bool
  relay : Bool
  voltage : BitVec (8 * c.layout.voltage.width)
  current : BitVec (8 * c.layout.current.width)
  phase : BitVec (8 * c.layout.phase.width)
  temperature : BitVec (8 * c.layout.temperature.width)
  time : BitVec c.rtcW
  error : BitVec (8 * c.layout.error.width)
deriving DecidableEq, Repr

/-- What the outside world offers for one step: a transaction on `txn` and a value on `rtc_in`
(`10_state.md` R26, R27, `00_scope.md` R16). -/
structure Input (c : Config) where
  txn : Txn
  rtc : BitVec c.rtcW
deriving DecidableEq, Repr

/-- The block: the five registers of `10_state.md` R20 and what stands on the ports, for an instance with the given
parameters, which are no part of it (`10_state.md` R30); the last field is the model's draw counter. -/
structure Block (c : Config) where
  /-- `ESC` (R21) -/
  esc : Bool
  /-- `WI` (R22) -/
  wi : Nat
  /-- `FB` (R23) -/
  fb : Memory
  /-- `LS` (R24) -/
  ls : LinkState
  /-- `EPOCH` (R25) -/
  epoch : BitVec c.rtcW
  /-- The inputs of the steps to come, the next one first (R26; DESIGN CHOICE, log entry 3, safe). -/
  pending : List (Input c)
  /-- `rtc_in` in the current step (R27). -/
  rtcIn : BitVec c.rtcW
  /-- `act_out` of the last step (R28). -/
  actOut : List (Action c)
  /-- `cmd_out` of the last step (R28). -/
  cmdOut : List Command
  /-- `rec_out` of the last step (R28). -/
  recOut : Option (ParsedRecord c)
  /-- How often the contents of `FB` have been drawn: the model's own (DESIGN CHOICE, log entry 6, safe). -/
  fbDraw : Nat
deriving DecidableEq, Repr

/-- The state of the machine: one block instance, its parameters beside it. They are "one configuration argument, fixed for
the life of a block instance" (`00_scope.md` section 2), which the host's step takes with the state; nothing writes them
(DESIGN CHOICE, log entry 1, safe). -/
structure State where
  cfg : Config
  blk : Block cfg
deriving DecidableEq, Repr

/-- The reasons the machine stops with a fault. -/
inductive Fault where
  /-- Raised by `step` when no transaction is offered: the block then takes no step (`10_state.md` R26). Safe: the model
  stops where the block waits (DESIGN CHOICE, log entry 4). -/
  | noTransaction
  /-- Raised by APPEND when `WI` is not below `FRAME_LEN`, so that `FB[WI]` does not exist (`20_memory.md` R40). Safe, and
  ruled out by the invariant of `10_state.md` R22 (DEDUCED, log entry 7). -/
  | fbIndex
deriving DecidableEq, Repr

/-- The reasons a step is refused. -/
inductive Refusal where
  /-- Raised by `exec` for an operation without a meaning yet; no arm does so. Safe. -/
  | notModelled (mnemonic : String)
  /-- Raised by RESERVED_KIND and RESERVED_DATA: `Refused(ReservedTxn)` (`60_exceptions.md` R202). Safe: "no claim can be
  proved about a run that contains one". -/
  | reservedTxn
deriving DecidableEq, Repr

/-- The outcome of one operation or one step. -/
abbrev Result := Host.Outcome State Fault Refusal

/-- The block after RESET or power-on (`10_state.md` R29): every register at its reset value, every output empty, no input
offered. -/
def Block.reset (c : Config) : Block c where
  esc := false
  wi := 0
  fb := []
  ls := c.lsReset
  epoch := c.epochReset
  pending := []
  rtcIn := 0
  actOut := []
  cmdOut := []
  recOut := none
  fbDraw := 0

/-- The state right after reset, for the reference configuration of `00_scope.md` R12 (DESIGN CHOICE, log entry 2,
unsafe: no source supports its values). -/
def State.reset : State := ⟨Config.ref, Block.reset Config.ref⟩

end Sys2Proof.Machine
end

