-- ==== Sys2Proof/Machine/Ops.lean ====
section
/-! DEFINITION. The named operations over the frame buffer and the ports. -/

namespace Sys2Proof.Machine

variable {c : Config}

/-! ## The frame buffer -/

/-- The canonical form of the frame buffer: its indices rise strictly, so equal buffers are equal lists. -/
abbrev Memory.wf (m : Memory) : Prop := (m.map Prod.fst).Pairwise (· < ·)

/-- The byte written at an index, if one was (`20_memory.md` R40). -/
def Memory.read : Memory → Nat → Option Byte
  | [], _ => Memory.unlisted
  | (a, b) :: m, i => if a = i then some b else Memory.read m i

/-- `FB[i] <- v` (`00_scope.md` R14), keeping the indices in rising order. -/
def Memory.write : Memory → Nat → Byte → Memory
  | [], i, v => [(i, v)]
  | (a, b) :: m, i, v =>
    if i < a then (i, v) :: (a, b) :: m
    else if i = a then (i, v) :: m
    else (a, b) :: Memory.write m i v

/-- `FB[i]` (`00_scope.md` R14): the byte written there, or the unspecified byte of this draw (`10_state.md` R29). -/
def Block.fbByte (s : Block c) (i : Nat) : Byte :=
  (s.fb.read i).getD (Config.fbUnspecified s.fbDraw i)

/-- `MemRead(i, n) = FB[i .. i+n-1]` (`00_scope.md` R14). -/
def Block.memRead (s : Block c) (i n : Nat) : List Byte :=
  (List.range n).map fun k => s.fbByte (i + k)

/-- `MemWrite(i, 1, b)`, that is `FB[i] <- b` (`00_scope.md` R14). -/
def Block.memWrite (s : Block c) (i : Nat) (b : Byte) : Block c :=
  { s with fb := s.fb.write i b }

/-- `FB <- unspecified` (`70_reset_and_hazards.md` R220): no byte is specified any more, and the next contents are drawn
afresh (`00_scope.md` R16; log entry 6). -/
def Block.fbForget (s : Block c) : Block c :=
  { s with fb := [], fbDraw := s.fbDraw + 1 }

/-- The snapshot `CF = FB[0 .. FRAME_LEN-1]` (`20_memory.md` R41). -/
def Block.snapshot (s : Block c) : List Byte := s.memRead 0 c.frameLen

/-! ## The registers -/

/-- `WI <- n` (`10_state.md` R22). -/
def Block.setWi (s : Block c) (n : Nat) : Block c := { s with wi := n }

/-- `LS <- v` (`10_state.md` R24). -/
def Block.setLs (s : Block c) (v : LinkState) : Block c := { s with ls := v }

/-- `EPOCH <- v` (`10_state.md` R25). -/
def Block.setEpoch (s : Block c) (v : BitVec c.rtcW) : Block c := { s with epoch := v }

/-! ## The ports -/

/-- The outputs of a step start empty (`00_scope.md` R15, `10_state.md` R28). -/
def Block.beginStep (s : Block c) : Block c :=
  { s with actOut := [], cmdOut := [], recOut := none }

/-- `Emit(a)`: "appends the action `a` to the step's action output" (`00_scope.md` R15). -/
def Block.emit (s : Block c) (a : Action c) : Block c :=
  { s with actOut := s.actOut ++ [a] }

/-- `Cmd(c)`: "appends the command request `c` to the step's command output" (`00_scope.md` R15). -/
def Block.request (s : Block c) (r : Command) : Block c :=
  { s with cmdOut := s.cmdOut ++ [r] }

/-- `Rec(r)`: "places the ParsedRecord `r` on `rec_out`" (`00_scope.md` R15). -/
def Block.present (s : Block c) (r : ParsedRecord c) : Block c :=
  { s with recOut := some r }

/-- The code of a link state (`10_state.md` R24). -/
def linkCode : LinkState → BitVec 2
  | .init => 0b00
  | .read => 0b01
  | .undef2 => 0b10
  | .undef3 => 0b11

/-- The code of an action (`30_encoding.md` R71). -/
def actionCode : Action c → BitVec 3
  | .discardBadCrc => 0b001
  | .discardBadState => 0b010
  | .handshake _ => 0b011
  | .frameReady => 0b100

/-- `ls_out`: "the value of `LS` at the end of the step" (`10_state.md` R28). -/
def Block.lsOut (s : Block c) : BitVec 2 := linkCode s.ls

/-- `epoch_out`: "the value of `EPOCH` at the end of the step" (`10_state.md` R28). -/
def Block.epochOut (s : Block c) : BitVec c.rtcW := s.epoch

/-! ## Errors -/

/-- Raising an error: `raise <Exception>(info)` "is defined as `Emit` of the corresponding discard action. Nothing saves or
redirects state" (`00_scope.md` R15, `60_exceptions.md` R200, R201). There is no trap to return from. -/
def Block.discard (s : Block c) (a : Action c) : Block c := s.emit a

/-! ## The input port -/

/-- The block processing an offered input: the given inputs remain, and the input's RTC value stands on `rtc_in`
(`10_state.md` R27). -/
def Block.accept (s : Block c) (inp : Input c) (rest : List (Input c)) : Block c :=
  { s with pending := rest, rtcIn := inp.rtc }

/-- Offer the given inputs for the steps to come (log entry 3). -/
def Block.offer (s : Block c) (ins : List (Input c)) : Block c := { s with pending := ins }

/-- The next offered transaction and the state in which the block processes it (`00_scope.md` R16, `10_state.md` R26;
log entry 3). -/
def State.takeTransaction (s : State) : Option (Txn × State) :=
  match s.blk.pending with
  | [] => none
  | inp :: rest => some (inp.txn, ⟨s.cfg, s.blk.accept inp rest⟩)

/-- Put a word on the `txn` port of the next step, with the RTC value that step has, or the one on the port now
(log entry 3). -/
def State.placeTransaction (s : State) (w : Txn) : State :=
  match s.blk.pending with
  | [] => ⟨s.cfg, s.blk.offer [⟨w, s.blk.rtcIn⟩]⟩
  | inp :: rest => ⟨s.cfg, s.blk.offer (⟨w, inp.rtc⟩ :: rest)⟩

/-! ## Performing an operation -/

/-- What an operation of the block makes of the state: the parameters stay (`10_state.md` R30). -/
def State.perform (s : State) (f : Block s.cfg → Host.Outcome (Block s.cfg) Fault Refusal) : Result :=
  match f s.blk with
  | .next k => .next ⟨s.cfg, k⟩
  | .fault r => .fault r
  | .refused r => .refused r

end Sys2Proof.Machine
end

