-- ==== Sys2Proof/Machine/Operands.lean ====
section
/-! DEFINITION. Reading the fields of a completed frame: byte order, the stored CRC (`20_memory.md` R43, R44). -/

namespace Sys2Proof.Machine

/-- `CF[i]`. With a well-formed configuration every index a rule reads lies inside the frame; outside it the value is 0
(DESIGN CHOICE, log entry 13, unsafe for ill-formed configurations alone). -/
def frameByte (cf : List Byte) (i : Nat) : Byte := cf.getD i 0

/-- The `w` bytes of the field at offset `o`, in frame order. -/
def fieldBytes (cf : List Byte) (o w : Nat) : List Byte :=
  (List.range w).map fun k => frameByte cf (o + k)

/-- The number whose bytes are given, bits 7..0 first. -/
def littleEndian : List Byte → Nat
  | [] => 0
  | b :: bs => b.toNat + 256 * littleEndian bs

/-- The number whose bytes are given in a byte order (`20_memory.md` R43). -/
def orderedValue (order : ByteOrder) (bs : List Byte) : Nat :=
  match order with
  | .le => littleEndian bs
  | .be => littleEndian bs.reverse

/-- `FieldValue(CF, o, w)`, "`8*w` bits wide" (`20_memory.md` R43, `43_frame_parser.md` R161). Raw bits, never
sign-extended (`00_scope.md` R18). -/
def fieldValue (order : ByteOrder) (cf : List Byte) (o w : Nat) : BitVec (8 * w) :=
  BitVec.ofNat (8 * w) (orderedValue order (fieldBytes cf o w))

/-- The value of the field with the given span, in `FIELD_ORDER`. -/
def spanValue (c : Config) (cf : List Byte) (f : FieldSpan) : BitVec (8 * f.width) :=
  fieldValue c.fieldOrder cf f.offset f.width

/-- `StoredCrc(CF)` (`20_memory.md` R44). -/
def storedCrc (c : Config) (cf : List Byte) : Crc :=
  match c.crcOrder with
  | .le => frameByte cf (c.frameLen - 1) ++ frameByte cf (c.frameLen - 2)
  | .be => frameByte cf (c.frameLen - 2) ++ frameByte cf (c.frameLen - 1)

end Sys2Proof.Machine
end

