-- ==== Sys2Proof/Machine/Flags.lean ====
section
/-! DEFINITION. The one condition flag of the block, `ESC`, and the two flag bits of a frame. -/

namespace Sys2Proof.Machine

variable {c : Config}

/-- `ESC <- 1` (`41_deframer.md` R122). -/
def Block.setEsc (s : Block c) : Block c := { s with esc := true }

/-- `ESC <- 0` (`41_deframer.md` R121). -/
def Block.clearEsc (s : Block c) : Block c := { s with esc := false }

/-- The `flags` byte of a frame (`30_encoding.md` R68). -/
def flagsByte (c : Config) (cf : List Byte) : Byte := frameByte cf c.layout.flags.offset

/-- `occupancy = CF[flags.offset][OCC_BIT]` (`30_encoding.md` R68, `43_frame_parser.md` R162). -/
def occupancyFlag (c : Config) (cf : List Byte) : Bool := (flagsByte c cf).getLsbD c.occBit.val

/-- `relay = CF[flags.offset][RELAY_BIT]` (`30_encoding.md` R68, `43_frame_parser.md` R162). -/
def relayFlag (c : Config) (cf : List Byte) : Bool := (flagsByte c cf).getLsbD c.relayBit.val

end Sys2Proof.Machine
end

