-- ==== Sys2Proof/Machine/Crc16.lean ====
section
/-! DEFINITION. The CRC-16 validator: the nibble-folding step, the CRC of a span, the frame check (`40_crc16.md`). -/

namespace Sys2Proof.Machine

/-- `CRC_LEN` (`00_scope.md` R17). -/
def crcLen : Nat := 2

/-- `COVER_LEN = FRAME_LEN - CRC_LEN` (`00_scope.md` R17). -/
def coverLen (c : Config) : Nat := c.frameLen - crcLen

/-- The initial CRC value (`40_crc16.md` R101; a literal the requester calls unaudited, log entry 18). -/
def crcInit : Crc := 0x0000

/-- CRC_STEP (`40_crc16.md` R100): every intermediate value is 16 bits wide, and truncated by its width. -/
def crcStep (crc : Crc) (b : Byte) : Crc :=
  let x := (crc >>> 8) ^^^ b.setWidth 16
  let x := x ^^^ (x >>> 4)
  (crc <<< 8) ^^^ (x <<< 12) ^^^ (x <<< 5) ^^^ x

/-- CRC16 of a byte sequence (`40_crc16.md` R101). -/
def crc16 (d : List Byte) : Crc := d.foldl crcStep crcInit

/-- The bytes of a frame the CRC covers, `CF[0 .. COVER_LEN-1]` (`40_crc16.md` R102). -/
def covered (c : Config) (cf : List Byte) : List Byte := cf.take (coverLen c)

/-- VERIFY: "exact equality, no tolerance" (`40_crc16.md` R103). -/
def verify (c : Config) (cf : List Byte) : Bool := crc16 (covered c cf) == storedCrc c cf

/-- One byte of the incremental CRC (`40_crc16.md` R105): the running value takes in each byte appended while
`WI < COVER_LEN`, and is unchanged on the two CRC bytes. -/
def crcRunAppend (c : Config) (wi : Nat) (running : Crc) (b : Byte) : Crc :=
  if wi < coverLen c then crcStep running b else running

/-- The running value after an operation performed by the block `s` (`40_crc16.md` R105): it "becomes `0x0000` whenever `WI`
becomes 0 by resync, completion or RESET". A shadow value, no state of the block. -/
def crcRunAfter {c : Config} (i : Instr) (s : Block c) (running : Crc) : Crc :=
  match i with
  | .feedLiteral b | .feedData b =>
    if s.wi + 1 = c.frameLen then crcInit else crcRunAppend c s.wi running b
  | .feedStart | .reset => crcInit
  | .feedEscape | .linkInit | .linkRead | .reservedKind _ _ | .reservedData _ _ => running

/-- One byte, most significant bit first, of the bit-serial CRC with generator polynomial `0x1021` (`40_crc16.md` R104):
the cross-check, used by no rule of the block. -/
def crcSerialBits : Nat → Crc → Crc
  | 0, r => r
  | n + 1, r => crcSerialBits n (if r.msb then (r <<< 1) ^^^ 0x1021 else r <<< 1)

/-- The bit-serial CRC of a byte sequence: initial value `0x0000`, no reflection, no final XOR (`40_crc16.md` R104). -/
def crcSerial (d : List Byte) : Crc :=
  d.foldl (fun r b => crcSerialBits 8 (r ^^^ (b ++ 0#8 : Crc))) 0x0000

end Sys2Proof.Machine
end

