-- ==== Sys2Proof/Machine/Parser.lean ====
section
/-! DEFINITION. The frame parser, a pure transform (`43_frame_parser.md`). -/

namespace Sys2Proof.Machine

/-- TIME (`43_frame_parser.md` R163): the sum modulo `2^RTC_W`, the timestamp zero-extended. -/
def time {n : Nat} (w : Nat) (ts : BitVec n) (epoch : BitVec w) : BitVec w := ts.setWidth w + epoch

/-- PARSE (`43_frame_parser.md` R160). -/
def parse (c : Config) (cf : List Byte) (epoch : BitVec c.rtcW) : ParsedRecord c where
  occupancy := occupancyFlag c cf
  relay := relayFlag c cf
  voltage := spanValue c cf c.layout.voltage
  current := spanValue c cf c.layout.current
  phase := spanValue c cf c.layout.phase
  temperature := spanValue c cf c.layout.temperature
  time := time c.rtcW (spanValue c cf c.layout.timestamp) epoch
  error := spanValue c cf c.layout.error

end Sys2Proof.Machine
end

