-- ==== Sys2Proof/Machine/Link.lean ====
section
/-! DEFINITION. The link state machine: the dispatch of a completed frame and the two host transactions
(`42_link_fsm.md`). -/

namespace Sys2Proof.Machine

variable {c : Config}

/-- HANDSHAKE, "finish-init" (`42_link_fsm.md` R141): the frame's content is ignored. -/
def Block.handshake (s : Block c) : Block c :=
  let s := s.setEpoch s.rtcIn
  let s := s.request (.syncTime 0x00)
  let s := s.request .enableStreaming
  let s := s.setLs .read
  s.emit (.handshake s.epoch)

/-- DELIVER (`42_link_fsm.md` R142). -/
def Block.deliver (cf : List Byte) (s : Block c) : Block c :=
  let s := s.present (parse c cf s.epoch)
  s.emit .frameReady

/-- BADSTATE (`42_link_fsm.md` R143). -/
def Block.badState (s : Block c) : Block c := s.discard .discardBadState

/-- ON_FRAME (`42_link_fsm.md` R140): VERIFY first, then the dispatch on `LS`. -/
def Block.onFrame (cf : List Byte) (s : Block c) : Block c :=
  if verify c cf then
    match s.ls with
    | .init => s.handshake
    | .read => s.deliver cf
    | .undef2 => s.badState
    | .undef3 => s.badState
  else s.discard .discardBadCrc

/-- LINK_INIT (`42_link_fsm.md` R144). -/
def execLinkInit (s : State) : Result := s.perform fun k => .next (k.beginStep.setLs .init)

/-- LINK_READ (`42_link_fsm.md` R145). -/
def execLinkRead (s : State) : Result := s.perform fun k => .next (k.beginStep.setLs .read)

end Sys2Proof.Machine
end

