-- ==== Sys2Proof/Machine/Deframer.lean ====
section
/-! DEFINITION. The de-framer: APPEND and the four FEED operations (`41_deframer.md`). -/

namespace Sys2Proof.Machine

variable {c : Config}

/-- The completing part of APPEND: snapshot, `WI <- 0`, ON_FRAME (`41_deframer.md` R125). -/
def Block.complete (s : Block c) : Block c :=
  let cf := s.snapshot
  (s.setWi 0).onFrame cf

/-- APPEND and frame completion (`41_deframer.md` R125). An append beyond the buffer is a fault of the model
(log entry 7). -/
def Block.append (b : Byte) (s : Block c) : Host.Outcome (Block c) Fault Refusal :=
  if s.wi < c.frameLen then
    let s := s.memWrite s.wi b
    let s := s.setWi (s.wi + 1)
    .next (if s.wi = c.frameLen then s.complete else s)
  else .fault .fbIndex

/-- FEED_LITERAL (`41_deframer.md` R121). -/
def execFeedLiteral (b : Byte) (s : State) : Result := s.perform fun k => k.beginStep.clearEsc.append b

/-- FEED_ESCAPE (`41_deframer.md` R122). -/
def execFeedEscape (s : State) : Result := s.perform fun k => .next k.beginStep.setEsc

/-- FEED_START, the silent resync (`41_deframer.md` R123). -/
def execFeedStart (s : State) : Result := s.perform fun k => .next (k.beginStep.setWi 0)

/-- FEED_DATA (`41_deframer.md` R124). -/
def execFeedData (b : Byte) (s : State) : Result := s.perform fun k => k.beginStep.append b

end Sys2Proof.Machine
end

