-- ==== Sys2Proof/Machine/Reset.lean ====
section
/-! DEFINITION. RESET (`70_reset_and_hazards.md` R220) and the two reserved rows (`60_exceptions.md` R202). -/

namespace Sys2Proof.Machine

/-- RESET (`70_reset_and_hazards.md` R220): every register to its reset value, no output. -/
def execReset (s : State) : Result :=
  s.perform fun k =>
    .next ((((k.beginStep.clearEsc.setWi 0).fbForget).setLs s.cfg.lsReset).setEpoch s.cfg.epochReset)

/-- RESERVED_KIND: `Refused(ReservedTxn)`, no next state, no output (`60_exceptions.md` R202). -/
def execReservedKind (_k : BitVec 2) (_data : Byte) (_s : State) : Result := .refused .reservedTxn

/-- RESERVED_DATA: `Refused(ReservedTxn)`, no next state, no output (`60_exceptions.md` R202). -/
def execReservedData (_k : BitVec 2) (_data : Byte) (_s : State) : Result := .refused .reservedTxn

end Sys2Proof.Machine
end

