-- ==== Sys2Proof/Machine/Dispatch.lean ====
section
/-! DEFINITION. One arm per operation. -/

namespace Sys2Proof.Machine

/-- The meaning of every operation, by name. -/
def exec (i : Instr) (s : State) : Host.Outcome State Fault Refusal :=
  match i with
  | .feedLiteral b => Sys2Proof.Machine.execFeedLiteral b s
  | .feedEscape => Sys2Proof.Machine.execFeedEscape s
  | .feedStart => Sys2Proof.Machine.execFeedStart s
  | .feedData b => Sys2Proof.Machine.execFeedData b s
  | .linkInit => Sys2Proof.Machine.execLinkInit s
  | .linkRead => Sys2Proof.Machine.execLinkRead s
  | .reset => Sys2Proof.Machine.execReset s
  | .reservedKind k d => Sys2Proof.Machine.execReservedKind k d s
  | .reservedData k d => Sys2Proof.Machine.execReservedData k d s

end Sys2Proof.Machine
end

