-- ==== Sys2Proof/Machine/Step.lean ====
section
/-! DEFINITION. One step of the block: take the offered transaction, classify it, perform it (`00_scope.md` R4, R16). -/

namespace Sys2Proof.Machine

/-- `Step` (`00_scope.md` R16). The class of a FEED byte is read with `ESC` as the step starts (`30_encoding.md` R63). -/
def step (s : State) : Host.Outcome State Fault Refusal :=
  match s.takeTransaction with
  | none => .fault .noTransaction
  | some (w, s') => exec (decode s.blk.esc w) s'

/-- The state in which the next step takes the given word of the opcode table from the `txn` port (log entry 3). -/
def State.withFetchWord (s : State) (nbits w : Nat) : State :=
  s.placeTransaction (BitVec.ofNat 11 (w % 2 ^ nbits))

end Sys2Proof.Machine
end

