-- ==== Sys2Proof/Machine/CommandFrame.lean ====
section
/-! DEFINITION. The outbound command frame of `30_encoding.md` R72, "for reference only": what the command consumer outside
the block builds from a request. No operation of the block calls anything here. -/

namespace Sys2Proof.Machine

/-- The 3-byte command: `byte0 = type << 4`, `byte1 = payload`, `byte2 = 0xFF - ((byte0 + byte1) & 0xFF)`
(`30_encoding.md` R72). -/
def commandFrame (type : BitVec 4) (payload : Byte) : List Byte :=
  let byte0 : Byte := type ++ 0#4
  let byte1 := payload
  [byte0, byte1, 0xFF - (byte0 + byte1)]

/-- The frame a consumer builds for a request (`30_encoding.md` R73), with the type codes and the payload the source does
not give (`00_scope.md` R11, log entry 12). -/
def Command.frame : Command → List Byte
  | .syncTime offset => commandFrame Config.cmdTypeSyncTime offset
  | .enableStreaming => commandFrame Config.cmdTypeEnableStreaming Config.enableStreamingPayload

end Sys2Proof.Machine
end

