-- ==== Sys2Proof/Machine/Run.lean ====
section
/-! DEFINITION. Runs of several steps, and the refusal mark a run keeps (`60_exceptions.md` R202). -/

namespace Sys2Proof.Machine

/-- What a run leaves. The refusal mark of `60_exceptions.md` R202 belongs to the run and not to the state, since a refused
step "leaves no next state" that could hold it (log entry 14). -/
inductive Run where
  /-- No step was refused: the states after each step, as many of them as complete. -/
  | visited (states : List State)
  /-- The refusal mark: some step was refused. The run shows no state, "no claim can be proved about a run that contains
  one". -/
  | refused (r : Refusal)
deriving DecidableEq, Repr

/-- The run that visits one more state at its start; a refusal mark is kept. -/
def Run.after (t : State) : Run → Run
  | .visited states => .visited (t :: states)
  | .refused r => .refused r

/-- The first `n` steps. The run ends at a fault, the model's own stop (log entries 4 and 7), with the states it has; a
refused step puts the refusal mark on it for all the rest (`60_exceptions.md` R202). -/
def run : Nat → State → Run
  | 0, _ => .visited []
  | n + 1, s =>
    match step s with
    | .next t => (run n t).after t
    | .fault _ => .visited []
    | .refused r => .refused r

end Sys2Proof.Machine
end

