-- ==== Sys2Proof/Machine/Script.lean ====
section
/-! DEFINITION. The sender's side: payload units, the stuffing rule, and stimulus scripts, the spec's assembly language
(`30_encoding.md` R64, R65, R74, R75). -/

namespace Sys2Proof.Machine

/-- A payload unit of the stream (`30_encoding.md` R64): a plain byte, or an escaped byte sent after the escape sentinel. -/
inductive PayloadUnit where
  | plain (v : Byte)
  | escaped (v : Byte)
deriving DecidableEq, Repr

/-- The payload byte a unit yields, "verbatim" (`30_encoding.md` R64). -/
def PayloadUnit.value : PayloadUnit → Byte
  | .plain v => v
  | .escaped v => v

/-- The stream bytes of a unit (`30_encoding.md` R64). -/
def PayloadUnit.bytes : PayloadUnit → List Byte
  | .plain v => [v]
  | .escaped v => [escapeSentinel, v]

/-- A plain unit is a byte in `0x00 .. 0xFD`; any byte may be escaped (`30_encoding.md` R64). -/
abbrev PayloadUnit.legal : PayloadUnit → Prop
  | .plain v => v.toNat ≤ 0xFD
  | .escaped _ => True

/-- The unit the stuffing rule sends for a frame byte (`30_encoding.md` R65). -/
def stuffUnit (b : Byte) : PayloadUnit :=
  if b = escapeSentinel ∨ b = startSentinel then .escaped b else .plain b

/-- The stream of a frame by the stuffing rule: the start sentinel, then the unit of each byte (`30_encoding.md` R65). -/
def stuff (frame : List Byte) : List Byte :=
  startSentinel :: frame.flatMap fun b => (stuffUnit b).bytes

/-- `crcbytes(c)` (`30_encoding.md` R75). -/
def crcBytes (order : ByteOrder) (v : Crc) : List Byte :=
  match order with
  | .le => [v.extractLsb' 0 8, v.extractLsb' 8 8]
  | .be => [v.extractLsb' 8 8, v.extractLsb' 0 8]

/-- `F = p ++ crcbytes(CRC16(p))` (`30_encoding.md` R75, SFRAME). -/
def signedFrame (c : Config) (p : List Byte) : List Byte := p ++ crcBytes c.crcOrder (crc16 p)

/-- The word of a FEED transaction: `0x000 | b` (`30_encoding.md` R61). -/
def feedWord (b : Byte) : Txn := mkTxn 0 b

/-- A statement of a stimulus script (`30_encoding.md` R74) or a pseudo-statement (R75). -/
inductive Statement where
  | feed (b : Byte)
  | linkInit
  | linkRead
  | reset
  | rtc (n : Nat)
  | bytes (bs : List Byte)
  | sframe (p : List Byte)
  | rframe (f : List Byte)
deriving DecidableEq, Repr

/-- The transaction words of a statement, pseudo-statements expanded (`30_encoding.md` R74, R75). `RTC` "is not a
transaction and does not step the block". -/
def Statement.words (c : Config) : Statement → List Txn
  | .feed b => [feedWord b]
  | .linkInit => [mkTxn 1 0]
  | .linkRead => [mkTxn 2 0]
  | .reset => [mkTxn 3 0]
  | .rtc _ => []
  | .bytes bs => bs.map feedWord
  | .sframe p => (stuff (signedFrame c p)).map feedWord
  | .rframe f => (stuff f).map feedWord

/-- The value on `rtc_in` after a statement, reduced to `RTC_W` bits (`30_encoding.md` R74, log entry 17). -/
def Statement.rtcAfter (c : Config) (now : BitVec c.rtcW) : Statement → BitVec c.rtcW
  | .rtc n => BitVec.ofNat c.rtcW n
  | .feed _ | .linkInit | .linkRead | .reset | .bytes _ | .sframe _ | .rframe _ => now

/-- The inputs a script stands for, `rtc_in` starting at the given value (`30_encoding.md` R74). -/
def assemble (c : Config) (now : BitVec c.rtcW) : List Statement → List (Input c)
  | [] => []
  | st :: rest =>
    let now := st.rtcAfter c now
    (st.words c).map (fun w => ⟨w, now⟩) ++ assemble c now rest

/-- A script offered to the block: it "starts with `rtc_in = 0` unless it says otherwise" (`30_encoding.md` R74). -/
def Block.loadScript {c : Config} (s : Block c) (script : List Statement) : Block c :=
  s.offer (assemble c 0 script)

end Sys2Proof.Machine
end

