-- ==== Sys2Proof/Safety.lean ====
section
/-! DEFINITION. The terms the claims use: the invariant of the state, what the outputs of a step look like, and the
reserved words. -/

namespace Sys2Proof.Machine

variable {c : Config}

/-- What holds of the block between steps. -/
structure Block.Inv (s : Block c) : Prop where
  /-- the parameters meet `00_scope.md` R5, R6 and R8 -/
  cfg : c.wf
  /-- `0 <= WI < FRAME_LEN` (`10_state.md` R22) -/
  wi : s.wi < c.frameLen
  /-- the frame buffer has its canonical form -/
  fbCanonical : s.fb.wf
  /-- every byte of the frame buffer lies at an index `0 .. FRAME_LEN-1` (`20_memory.md` R40) -/
  fbInside : ∀ cell ∈ s.fb, cell.1 < c.frameLen
  /-- the bytes of the frame under construction are written (`20_memory.md` R41) -/
  fbWritten : ∀ i < s.wi, (s.fb.read i).isSome
  /-- an unknown link state only as the reset value names it (`10_state.md` R24) -/
  ls : s.ls = .init ∨ s.ls = .read ∨ s.ls = c.lsReset

/-- The invariant of the machine's state. -/
abbrev State.Inv (s : State) : Prop := s.blk.Inv

/-- The action is a handshake. -/
def Action.isHandshake : Action c → Bool
  | .handshake _ => true
  | .discardBadCrc => false
  | .discardBadState => false
  | .frameReady => false

/-- The step emitted the handshake action. -/
abbrev Block.shookHands (s : Block c) : Bool := s.actOut.any Action.isHandshake

/-- No output on any event port. -/
abbrev Block.Quiet (s : Block c) : Prop := s.actOut = [] ∧ s.cmdOut = [] ∧ s.recOut = none

/-- The outputs a step may leave (`10_state.md` R28, `42_link_fsm.md` R140 to R143): nothing; a discard; a handshake carrying
the new epoch, with the two requests in their order; or a record with FRAME_READY. -/
abbrev Block.OutputsOk (s : Block c) : Prop :=
  s.Quiet ∨
  ((s.actOut = [.discardBadCrc] ∨ s.actOut = [.discardBadState]) ∧ s.cmdOut = [] ∧ s.recOut = none) ∨
  (s.actOut = [.handshake s.epoch] ∧ s.cmdOut = [.syncTime 0x00, .enableStreaming] ∧ s.recOut = none) ∨
  (s.actOut = [.frameReady] ∧ s.cmdOut = [] ∧ s.recOut.isSome)

/-- The payload byte an operation appends, if it appends one (`41_deframer.md` R121, R124). -/
def appendedByte : Instr → Option Byte
  | .feedLiteral b => some b
  | .feedData b => some b
  | .feedEscape => none
  | .feedStart => none
  | .linkInit => none
  | .linkRead => none
  | .reset => none
  | .reservedKind _ _ => none
  | .reservedData _ _ => none

/-- The operation completes a frame: an append at the last index (`41_deframer.md` R125). -/
def completes (i : Instr) (s : Block c) : Bool := (appendedByte i).isSome && s.wi + 1 == c.frameLen

/-- The frame `CF` that an append of `b` completes: the buffer after that append (`20_memory.md` R41,
`41_deframer.md` R125). -/
def Block.frameWith (s : Block c) (b : Byte) : List Byte := (s.memWrite s.wi b).snapshot

/-- What the step from `s` to `t` shows in READ, with the given epoch: a completed frame delivered (`42_link_fsm.md` R142)
or dropped (R140) as VERIFY decides, and nothing when no frame completes. -/
abbrev Block.ReadOutputs (s : Block c) (epoch : BitVec c.rtcW) (t : Block c) : Prop :=
  ∃ inp rest, s.pending = inp :: rest ∧
    (∀ b, appendedByte (decode s.esc inp.txn) = some b → completes (decode s.esc inp.txn) s = true →
      if verify c (s.frameWith b) then
        t.actOut = [.frameReady] ∧ t.recOut = some (parse c (s.frameWith b) epoch)
      else t.actOut = [.discardBadCrc] ∧ t.recOut = none) ∧
    (completes (decode s.esc inp.txn) s = false → t.Quiet)

/-- The running CRC of `40_crc16.md` R105 is the CRC of the covered bytes collected so far. -/
abbrev Block.RunningCrcOk (s : Block c) (running : Crc) : Prop :=
  running = crc16 (s.memRead 0 (min s.wi (coverLen c)))

/-- The word is reserved (`30_encoding.md` R62). -/
abbrev reservedWord (w : Txn) : Prop :=
  4 ≤ (txnKind w).toNat ∨ (1 ≤ (txnKind w).toNat ∧ txnData w ≠ 0)

end Sys2Proof.Machine
end

