-- ==== Sys2Proof/Certificates/Slice0/Obligations.lean ====
section
/-! DEFINITION. The statements about the model, each with the rule of `spec/` it formalises. `c` is an arbitrary configuration
throughout: nothing is claimed of REFCFG alone (`92_eei_decisions.md` D30). -/

open Sys2Proof Sys2Proof.Machine

/-! ## Encoding -/

/-- `30_encoding.md` R60 to R63: no bit of an operation is lost in its word. -/
def Obligations.DecodeUndoesEncode : Prop :=
  ∀ (esc : Bool) (i : Instr), i.wf = true → i.escOk esc = true → decode esc (encode i) = i

/-- `30_encoding.md` R61 to R63: every word of the port is one operation, of a row whose condition on `ESC` holds. -/
def Obligations.EveryWordIsOneOperation : Prop :=
  ∀ (esc : Bool) (w : Txn),
    encode (decode esc w) = w ∧ (decode esc w).wf = true ∧ (decode esc w).escOk esc = true

/-- `95_test_vectors.md` V-ENC-1 to V-ENC-10: words written out from `30_encoding.md` R60 and R61. -/
def Obligations.DecodesWrittenOutWords : Prop :=
  decode false 0b00001000001 = .feedData 0x41 ∧
  decode true 0b00001000001 = .feedLiteral 0x41 ∧
  decode false 0b00011111110 = .feedEscape ∧ decode true 0b00011111110 = .feedLiteral 0xFE ∧
  decode false 0b00011111111 = .feedStart ∧ decode true 0b00011111111 = .feedLiteral 0xFF ∧
  decode false 0b00100000000 = .linkInit ∧
  decode false 0b01000000000 = .linkRead ∧
  decode false 0b01100000000 = .reset ∧
  decode false 0b00100000001 = .reservedData 0b01 0x01 ∧
  decode false 0b01111111111 = .reservedData 0b11 0xFF ∧
  decode false 0b10000000000 = .reservedKind 0b00 0x00 ∧
  decode false 0b11111111111 = .reservedKind 0b11 0xFF

/-- `30_encoding.md` R63: the class of a FEED byte, in priority order. -/
def Obligations.FeedByteClasses : Prop :=
  ∀ b : Byte,
    decode true (feedWord b) = .feedLiteral b ∧
    (b = 0xFE → decode false (feedWord b) = .feedEscape) ∧
    (b = 0xFF → decode false (feedWord b) = .feedStart) ∧
    (b.toNat ≤ 0xFD → decode false (feedWord b) = .feedData b)

/-- `60_exceptions.md` R202 over `30_encoding.md` R62: exactly the reserved words are refused, whatever the state. -/
def Obligations.ExactlyReservedWordsAreRefused : Prop :=
  ∀ (c : Config) (s : Block c) (inp : Input c) (rest : List (Input c)), s.pending = inp :: rest →
    (step ⟨c, s⟩ = .refused .reservedTxn ↔ reservedWord inp.txn)

/-- `60_exceptions.md` R202: the two reserved operations answer the refusal ReservedTxn, in every state. A run
with such a step keeps the mark (`RefusalMarkIsKept`, log entry 14). -/
def Obligations.ReservedOperationsAreRefused : Prop :=
  ∀ (s : State) (k : BitVec 2) (d : Byte),
    exec (.reservedKind k d) s = .refused .reservedTxn ∧ exec (.reservedData k d) s = .refused .reservedTxn

/-- `60_exceptions.md` R202, kept on the run as log entry 14 says: once a run has the refusal mark, the run keeps it however
long it goes on; and from a state that meets the invariant (`10_state.md` R22, a derivation of the spec), a run of `n`
steps has it exactly when one of the first `n` offered words is reserved. -/
def Obligations.RefusalMarkIsKept : Prop :=
  (∀ (m n : Nat) (s : State) (r : Refusal), m ≤ n → run m s = .refused r → run n s = .refused r) ∧
  (∀ (n : Nat) (s : State), s.Inv →
    (run n s = .refused .reservedTxn ↔ ∃ inp ∈ s.blk.pending.take n, reservedWord inp.txn))

/-! ## The step -/

/-- `00_scope.md` R16, `10_state.md` R26, R27: a step performs the operation of the offered word, classified with
`ESC` as the step starts, with the offered RTC value on `rtc_in`; one input is consumed. -/
def Obligations.StepPerformsTheOfferedOperation : Prop :=
  ∀ (c : Config) (s : Block c) (inp : Input c) (rest : List (Input c)), s.pending = inp :: rest →
    step ⟨c, s⟩ = exec (decode s.esc inp.txn) ⟨c, { s with pending := rest, rtcIn := inp.rtc }⟩

/-- The model's choice (log entry 4): with nothing offered, no step. -/
def Obligations.NothingOfferedStops : Prop :=
  ∀ s : State, s.blk.pending = [] → step s = .fault .noTransaction

/-- `00_scope.md` R16 and `93_implementation_defined.md` ("every non-refused step has a successor"): under the
invariant an offered transaction is performed, or refused because its word is reserved. -/
def Obligations.EveryOfferedTransactionIsPerformedOrReserved : Prop :=
  ∀ s : State, s.Inv → s.blk.pending ≠ [] → (∃ t, step s = .next t) ∨ step s = .refused .reservedTxn

/-- `10_state.md` R26, R30: a step leaves the configuration alone and takes exactly one input. -/
def Obligations.ConfigurationNeverChanges : Prop :=
  ∀ s t : State, step s = .next t → t.cfg = s.cfg ∧ t.blk.pending.length + 1 = s.blk.pending.length

/-! ## The de-framer -/

/-- `41_deframer.md` R122: in every state, and as the step on the word `0x0FE` with `ESC = 0`; after it any next FEED
byte is literal. With `ESC = 1`, outside the rule's condition, the first clause is the model's choice (log entry 10). -/
def Obligations.FeedEscapeSetsEsc : Prop :=
  ∀ (c : Config) (s : Block c),
    exec .feedEscape ⟨c, s⟩ = .next ⟨c, { s with esc := true, actOut := [], cmdOut := [], recOut := none }⟩ ∧
    ∀ (inp : Input c) (rest : List (Input c)), s.pending = inp :: rest → s.esc = false → inp.txn = 0x0FE →
      step ⟨c, s⟩ = .next ⟨c, { s with esc := true, pending := rest, rtcIn := inp.rtc,
                                       actOut := [], cmdOut := [], recOut := none }⟩ ∧
      ∀ b : Byte, decode true (feedWord b) = .feedLiteral b

/-- `41_deframer.md` R123: the silent resync, in every state and as the step on the word `0x0FF` with `ESC = 0`; with
`WI = 0` no register changes. With `ESC = 1`, outside the rule's condition, the first two clauses are the model's choice
(log entry 10). -/
def Obligations.FeedStartDiscardsThePartialFrame : Prop :=
  ∀ (c : Config) (s : Block c),
    exec .feedStart ⟨c, s⟩ = .next ⟨c, { s with wi := 0, actOut := [], cmdOut := [], recOut := none }⟩ ∧
    (s.wi = 0 → exec .feedStart ⟨c, s⟩ = .next ⟨c, { s with actOut := [], cmdOut := [], recOut := none }⟩) ∧
    ∀ (inp : Input c) (rest : List (Input c)), s.pending = inp :: rest → s.esc = false → inp.txn = 0x0FF →
      step ⟨c, s⟩ = .next ⟨c, { s with wi := 0, pending := rest, rtcIn := inp.rtc,
                                       actOut := [], cmdOut := [], recOut := none }⟩

/-- `41_deframer.md` R124 and R125: below the last index the byte is stored and `WI` moves on; at the last index `WI`
is 0 and ON_FRAME runs on the buffer as it is after the append. With `ESC = 1` or a byte above `0xFD`, outside the
condition of R124, it is the model's choice (log entry 10). -/
def Obligations.FeedDataAppends : Prop :=
  ∀ (c : Config) (s : Block c) (b : Byte),
    (s.wi + 1 < c.frameLen →
      exec (.feedData b) ⟨c, s⟩ =
        .next ⟨c, { s with fb := s.fb.write s.wi b, wi := s.wi + 1, actOut := [], cmdOut := [], recOut := none }⟩) ∧
    (s.wi + 1 = c.frameLen →
      exec (.feedData b) ⟨c, s⟩ =
        .next ⟨c, Block.onFrame (s.frameWith b)
          { s with fb := s.fb.write s.wi b, wi := 0, actOut := [], cmdOut := [], recOut := none }⟩)

/-- `41_deframer.md` R121 and R125: any value is appended verbatim, and `ESC` is 0 after the step, a completion
included. With `ESC = 0`, outside the condition of R121, it is the model's choice (log entry 10). -/
def Obligations.FeedLiteralAppends : Prop :=
  ∀ (c : Config) (s : Block c) (b : Byte),
    (s.wi + 1 < c.frameLen →
      exec (.feedLiteral b) ⟨c, s⟩ =
        .next ⟨c, { s with esc := false, fb := s.fb.write s.wi b, wi := s.wi + 1,
                           actOut := [], cmdOut := [], recOut := none }⟩) ∧
    (s.wi + 1 = c.frameLen →
      exec (.feedLiteral b) ⟨c, s⟩ =
        .next ⟨c, Block.onFrame (s.frameWith b)
          { s with esc := false, fb := s.fb.write s.wi b, wi := 0, actOut := [], cmdOut := [], recOut := none }⟩)

/-- The model's stop (log entry 7): an append with `WI` outside the buffer is a fault, since `FB[WI]` does not exist
(`20_memory.md` R40); the invariant rules it out. -/
def Obligations.AppendOutsideTheBufferFaults : Prop :=
  ∀ (c : Config) (s : Block c) (i : Instr) (b : Byte), appendedByte i = some b →
    (exec i ⟨c, s⟩ = .fault .fbIndex ↔ c.frameLen ≤ s.wi)

/-- Frame of FEED_LITERAL and FEED_DATA (`41_deframer.md` R121, R124, R125, `20_memory.md` R40): the byte is stored at
index `WI` and every other index reads as before; `WI` moves on, or back to 0 at a completion; short of a completion
`LS` and `EPOCH` stay and no output appears. -/
def Obligations.AppendWritesOnlyItsIndex : Prop :=
  ∀ (c : Config) (s t : Block c) (i : Instr) (b : Byte), appendedByte i = some b → exec i ⟨c, s⟩ = .next ⟨c, t⟩ →
    t.fb.read s.wi = some b ∧
    (∀ a, a ≠ s.wi → t.fb.read a = s.fb.read a) ∧
    (∀ a, a ≠ s.wi → t.fbByte a = s.fbByte a) ∧
    t.wi = (if s.wi + 1 = c.frameLen then 0 else s.wi + 1) ∧
    t.esc = (if i = .feedLiteral b then false else s.esc) ∧
    t.pending = s.pending ∧ t.rtcIn = s.rtcIn ∧ t.fbDraw = s.fbDraw ∧
    (s.wi + 1 ≠ c.frameLen → t.ls = s.ls ∧ t.epoch = s.epoch ∧ t.Quiet)

/-- Frame of FEED_ESCAPE, FEED_START, LINK_INIT and LINK_READ (`41_deframer.md` R122, R123, `42_link_fsm.md` R144,
R145): no byte of the frame buffer changes, each register but the one the rule names stays, and nothing is output. -/
def Obligations.OtherOperationsStoreNothing : Prop :=
  ∀ (c : Config) (s t : Block c) (i : Instr), i = .feedEscape ∨ i = .feedStart ∨ i = .linkInit ∨ i = .linkRead →
    exec i ⟨c, s⟩ = .next ⟨c, t⟩ →
    (∀ a, t.fb.read a = s.fb.read a) ∧ (∀ a, t.fbByte a = s.fbByte a) ∧
    t.esc = (if i = .feedEscape then true else s.esc) ∧
    t.wi = (if i = .feedStart then 0 else s.wi) ∧
    t.ls = (if i = .linkInit then .init else if i = .linkRead then .read else s.ls) ∧
    t.epoch = s.epoch ∧ t.pending = s.pending ∧ t.rtcIn = s.rtcIn ∧ t.fbDraw = s.fbDraw ∧ t.Quiet

/-- `41_deframer.md` R120: the dispatch of a FEED, in the source's order, and "FEED is never refused; all 256 values
of `b` are defined in both `ESC` states." The bound on `WI`, before and after, is the invariant of `10_state.md` R22, a
derivation of the spec that shuts out the stop of log entry 7; the value of `ESC` after the step is that of R121 to
R124. -/
def Obligations.FeedIsAlwaysPerformed : Prop :=
  ∀ (c : Config) (s : Block c) (inp : Input c) (rest : List (Input c)) (b : Byte), s.wi < c.frameLen →
    s.pending = inp :: rest → inp.txn = feedWord b →
    step ⟨c, s⟩ =
      exec (if s.esc then .feedLiteral b else if b = 0xFE then .feedEscape else if b = 0xFF then .feedStart else .feedData b)
        ⟨c, { s with pending := rest, rtcIn := inp.rtc }⟩ ∧
    ∃ t : Block c, step ⟨c, s⟩ = .next ⟨c, t⟩ ∧ t.wi < c.frameLen ∧ t.esc = (!s.esc && decide (b = 0xFE))

/-- `60_exceptions.md` R204 and `41_deframer.md` R126, derivations of the spec: at most one action a step, and exactly
on the FEED that completes a frame. -/
def Obligations.ActionsComeOnlyAtCompletion : Prop :=
  ∀ (c : Config) (s t : Block c), step ⟨c, s⟩ = .next ⟨c, t⟩ → ∃ inp rest, s.pending = inp :: rest ∧
    t.actOut.length = (if completes (decode s.esc inp.txn) s then 1 else 0)

/-- `10_state.md` R28: what the five output ports show after a step, whatever the state before it. -/
def Obligations.OutputsAreOfOneKind : Prop :=
  ∀ s t : State, step s = .next t →
    t.blk.OutputsOk ∧ t.blk.lsOut = linkCode t.blk.ls ∧ t.blk.epochOut = t.blk.epoch

/-- `30_encoding.md` R64, `41_deframer.md` R127, R128, derivations of the spec: from `WI = 0` and `ESC = 0`, with no
start sentinel, the units of a frame, plain or escaped in any legal way, complete exactly one frame, in the step of
the last byte, with the values of the units. -/
def Obligations.UnitsCompleteOneFrame : Prop :=
  ∀ (c : Config) (s : Block c) (us : List PayloadUnit) (ins rest : List (Input c)) (last : Input c),
    c.wf → s.wi = 0 → s.esc = false → us.length = c.frameLen → (∀ u ∈ us, u.legal) →
    s.pending = ins ++ last :: rest →
    (ins ++ [last]).map Input.txn = (us.flatMap PayloadUnit.bytes).map feedWord →
    ∃ (before : List (Block c)) (m : Memory),
      run (ins.length + 1) ⟨c, s⟩ = .visited (before.map (State.mk c) ++
        [⟨c, Block.onFrame (us.map PayloadUnit.value)
          { s with fb := m, pending := rest, rtcIn := last.rtc, actOut := [], cmdOut := [], recOut := none }⟩]) ∧
      before.length = ins.length ∧ ∀ t ∈ before, t.Quiet

/-- `41_deframer.md` R131, a derivation of the spec: the stuffed form of a frame, from any state with `ESC = 0`,
completes exactly one frame, equal to it; a sentinel byte comes through FEED_LITERAL, any other through FEED_DATA. -/
def Obligations.StuffedFrameRoundTrips : Prop :=
  (∀ b : Byte,
    (b = 0xFE ∨ b = 0xFF → (stuffUnit b).bytes = [0xFE, b] ∧ decode true (feedWord b) = .feedLiteral b) ∧
    (b ≠ 0xFE ∧ b ≠ 0xFF → (stuffUnit b).bytes = [b] ∧ decode false (feedWord b) = .feedData b)) ∧
  ∀ (c : Config) (s : Block c) (frame : List Byte) (ins rest : List (Input c)) (last : Input c),
    c.wf → s.esc = false → frame.length = c.frameLen →
    s.pending = ins ++ last :: rest →
    (ins ++ [last]).map Input.txn = (stuff frame).map feedWord →
    ∃ (before : List (Block c)) (m : Memory),
      run (ins.length + 1) ⟨c, s⟩ = .visited (before.map (State.mk c) ++
        [⟨c, Block.onFrame frame
          { s with wi := 0, fb := m, pending := rest, rtcIn := last.rtc, actOut := [], cmdOut := [], recOut := none }⟩]) ∧
      before.length = ins.length ∧ ∀ t ∈ before, t.Quiet

/-- `41_deframer.md` R130, a derivation of the spec: after a `0xFF` seen with `ESC = 0` the next completion is the
frame that follows, with or without its own start sentinel, and no byte fed before is part of it; a `0xFF` seen with
`ESC = 1` is payload and resyncs nothing. -/
def Obligations.ResyncDeliversTheNextFrame : Prop :=
  (∀ (c : Config) (s : Block c) (frame : List Byte) (ins rest : List (Input c)) (last : Input c),
    c.wf → s.esc = false → frame.length = c.frameLen →
    s.pending = ins ++ last :: rest →
    (ins ++ [last]).map Input.txn = feedWord 0xFF :: (frame.flatMap fun b => (stuffUnit b).bytes).map feedWord ∨
      (ins ++ [last]).map Input.txn = feedWord 0xFF :: (stuff frame).map feedWord →
    ∃ (before : List (Block c)) (m : Memory),
      run (ins.length + 1) ⟨c, s⟩ = .visited (before.map (State.mk c) ++
        [⟨c, Block.onFrame frame
          { s with wi := 0, fb := m, pending := rest, rtcIn := last.rtc, actOut := [], cmdOut := [], recOut := none }⟩]) ∧
      before.length = ins.length ∧ ∀ t ∈ before, t.Quiet) ∧
  (∀ (c : Config) (s : Block c) (inp : Input c) (rest : List (Input c)), s.wi + 1 < c.frameLen → s.esc = true →
    s.pending = inp :: rest → inp.txn = feedWord 0xFF →
    ∃ t : Block c, step ⟨c, s⟩ = .next ⟨c, t⟩ ∧ t.wi = s.wi + 1 ∧ t.fb.read s.wi = some 0xFF ∧ t.Quiet)

/-- `20_memory.md` R41, a derivation of the spec: "No rule observes `FB`'s reset contents, or bytes left over from an
earlier frame." Two states that differ only in the frame buffer at indices not yet written for the frame under
construction go through the same steps: every register but `FB`, every output and every input stay equal, and both
stop at the same step, or both runs have the refusal mark (R202). It holds of every value of the free bytes (log
entry 6). -/
def Obligations.LeftoverBytesAreNeverObserved : Prop :=
  ∀ (n : Nat) (c : Config) (s : Block c) (m : Memory) (d : Nat), s.wi < c.frameLen →
    (∀ a < s.wi, Block.fbByte { s with fb := m, fbDraw := d } a = s.fbByte a) →
    (∃ r, run n ⟨c, s⟩ = .refused r ∧ run n ⟨c, { s with fb := m, fbDraw := d }⟩ = .refused r) ∨
    ∃ ts ts' : List (Block c),
      run n ⟨c, s⟩ = .visited (ts.map (State.mk c)) ∧
      run n ⟨c, { s with fb := m, fbDraw := d }⟩ = .visited (ts'.map (State.mk c)) ∧
      List.Forall₂ (fun t t' => ∃ m' d', t' = { t with fb := m', fbDraw := d' }) ts ts'

/-! ## The CRC -/

/-- `40_crc16.md` R100 and R101 in exact arithmetic: the nibble fold, and that its `x` stays below `0x100`. -/
def Obligations.CrcFoldsNibbles : Prop :=
  (∀ (crc : Crc) (b : Byte),
    let x1 := (crc.toNat / 256) ^^^ b.toNat
    let x2 := x1 ^^^ (x1 / 16)
    x1 < 0x100 ∧ x2 < 0x100 ∧
    (crcStep crc b).toNat = ((crc.toNat * 256) ^^^ (x2 * 4096) ^^^ (x2 * 32) ^^^ x2) % 0x10000) ∧
  crc16 [] = 0x0000 ∧
  ∀ (d : List Byte) (b : Byte), crc16 (d ++ [b]) = crcStep (crc16 d) b

/-- `40_crc16.md` R104, a derivation of the spec, with its check value: CRC16 is the MSB-first CRC with polynomial
`0x1021`, initial value 0, no reflection, no final XOR. -/
def Obligations.CrcEqualsTheBitSerialCrc : Prop :=
  (∀ d : List Byte, crc16 d = crcSerial d) ∧
  crc16 [0x31, 0x32, 0x33, 0x34, 0x35, 0x36, 0x37, 0x38, 0x39] = 0x31C3

/-- `40_crc16.md` R106 (a), a derivation of the spec. -/
def Obligations.CrcIsLinear : Prop :=
  ∀ a b : List Byte, a.length = b.length →
    crc16 (List.zipWith (fun x y => x ^^^ y) a b) = crc16 a ^^^ crc16 b

/-- `40_crc16.md` R106 (b) and (c), derivations of the spec, here for every frame length: one changed byte of a valid
frame always makes VERIFY false. -/
def Obligations.OneChangedByteIsDetected : Prop :=
  ∀ (c : Config) (cf : List Byte) (i : Nat) (v : Byte), c.wf → cf.length = c.frameLen →
    verify c cf = true → i < c.frameLen → v ≠ frameByte cf i → verify c (cf.set i v) = false

/-- `40_crc16.md` R106 (d), a derivation of the spec: with `CRC_ORDER = BE` the CRC of a whole frame is 0 exactly when
the frame is valid. -/
def Obligations.ValidBigEndianFrameHasZeroResidue : Prop :=
  ∀ (c : Config) (cf : List Byte), c.wf → c.crcOrder = .be → cf.length = c.frameLen →
    (verify c cf = true ↔ crc16 cf = 0)

/-- `40_crc16.md` R105, a derivation of the spec: an implementation that keeps a running CRC as the rule says has, in
every state, the CRC of the covered bytes collected so far; at a completion that is `CRC16(CF[0 .. COVER_LEN-1])`. -/
def Obligations.RunningCrcIsTheFrameCrc : Prop :=
  (∀ (c : Config) (s : Block c), s.wi = 0 → s.RunningCrcOk 0x0000) ∧
  (∀ (c : Config) (s t : Block c) (i : Instr) (running : Crc), s.wi < c.frameLen → s.RunningCrcOk running →
    exec i ⟨c, s⟩ = .next ⟨c, t⟩ → t.RunningCrcOk (crcRunAfter i s running)) ∧
  (∀ (c : Config) (s : Block c) (b : Byte) (running : Crc), c.wf → s.wi + 1 = c.frameLen → s.RunningCrcOk running →
    crcRunAppend c s.wi running b = crc16 (covered c (s.frameWith b)))

/-- `30_encoding.md` R75, `40_crc16.md` R103: the frame SFRAME builds verifies, in either byte order, for every
payload. -/
def Obligations.SignedFrameVerifies : Prop :=
  ∀ (c : Config) (p : List Byte), c.wf → p.length = coverLen c → verify c (signedFrame c p) = true

/-- `70_reset_and_hazards.md` R232, a derivation of the spec: a frame of zeros is valid, and its record is all zero
with `time = EPOCH`. -/
def Obligations.ZeroFrameIsValid : Prop :=
  ∀ (c : Config) (epoch : BitVec c.rtcW), c.wf →
    verify c (List.replicate c.frameLen 0) = true ∧
    parse c (List.replicate c.frameLen 0) epoch =
      { occupancy := false, relay := false, voltage := 0, current := 0, phase := 0, temperature := 0, time := epoch, error := 0 }

/-! ## The link state machine -/

/-- `42_link_fsm.md` R140, the CRC failure: "frame dropped", `LS` and `EPOCH` unchanged, in every link state. -/
def Obligations.BadCrcDiscardsTheFrame : Prop :=
  ∀ (c : Config) (s : Block c) (i : Instr) (b : Byte), appendedByte i = some b → i.escOk s.esc = true →
    s.wi + 1 = c.frameLen → verify c (s.frameWith b) = false →
    exec i ⟨c, s⟩ = .next ⟨c,
      { s with esc := false, wi := 0, fb := s.fb.write s.wi b,
               actOut := [.discardBadCrc], cmdOut := [], recOut := none }⟩

/-- `42_link_fsm.md` R141: the handshake takes `rtc_in` as the epoch, requests the two commands in order and enters
READ. -/
def Obligations.HandshakeTakesTheEpoch : Prop :=
  ∀ (c : Config) (s : Block c) (i : Instr) (b : Byte), appendedByte i = some b → i.escOk s.esc = true →
    s.wi + 1 = c.frameLen → verify c (s.frameWith b) = true → s.ls = .init →
    exec i ⟨c, s⟩ = .next ⟨c,
      { s with esc := false, wi := 0, fb := s.fb.write s.wi b, epoch := s.rtcIn, ls := .read,
               actOut := [.handshake s.rtcIn], cmdOut := [.syncTime 0x00, .enableStreaming], recOut := none }⟩

/-- `42_link_fsm.md` R142, `43_frame_parser.md` R160 to R163: the record of a data frame, field by field. -/
def Obligations.DataFrameIsDelivered : Prop :=
  ∀ (c : Config) (s : Block c) (i : Instr) (b : Byte), appendedByte i = some b → i.escOk s.esc = true →
    s.wi + 1 = c.frameLen → verify c (s.frameWith b) = true → s.ls = .read →
    exec i ⟨c, s⟩ = .next ⟨c,
      { s with esc := false, wi := 0, fb := s.fb.write s.wi b, actOut := [.frameReady], cmdOut := [],
               recOut := some
                 { occupancy := (frameByte (s.frameWith b) c.layout.flags.offset).getLsbD c.occBit.val
                   relay := (frameByte (s.frameWith b) c.layout.flags.offset).getLsbD c.relayBit.val
                   voltage := fieldValue c.fieldOrder (s.frameWith b) c.layout.voltage.offset c.layout.voltage.width
                   current := fieldValue c.fieldOrder (s.frameWith b) c.layout.current.offset c.layout.current.width
                   phase := fieldValue c.fieldOrder (s.frameWith b) c.layout.phase.offset c.layout.phase.width
                   temperature :=
                     fieldValue c.fieldOrder (s.frameWith b) c.layout.temperature.offset c.layout.temperature.width
                   time :=
                     (fieldValue c.fieldOrder (s.frameWith b) c.layout.timestamp.offset
                       c.layout.timestamp.width).setWidth c.rtcW + s.epoch
                   error := fieldValue c.fieldOrder (s.frameWith b) c.layout.error.offset c.layout.error.width } }⟩

/-- `42_link_fsm.md` R143: a valid frame in an unknown state is dropped, `LS` and `EPOCH` unchanged. -/
def Obligations.UnknownStateDiscardsTheFrame : Prop :=
  ∀ (c : Config) (s : Block c) (i : Instr) (b : Byte), appendedByte i = some b → i.escOk s.esc = true →
    s.wi + 1 = c.frameLen → verify c (s.frameWith b) = true → s.ls = .undef2 ∨ s.ls = .undef3 →
    exec i ⟨c, s⟩ = .next ⟨c,
      { s with esc := false, wi := 0, fb := s.fb.write s.wi b,
               actOut := [.discardBadState], cmdOut := [], recOut := none }⟩

/-- `42_link_fsm.md` R144, with the spec's choice D14: from every state, only `LS` is written; with `data` not `0x00`
the word is refused. -/
def Obligations.LinkInitWritesOnlyTheLinkState : Prop :=
  ∀ (c : Config) (s : Block c),
    exec .linkInit ⟨c, s⟩ = .next ⟨c, { s with ls := .init, actOut := [], cmdOut := [], recOut := none }⟩ ∧
    decode s.esc 0x100 = .linkInit ∧
    ∀ d : Byte, d ≠ 0 → ∀ t : State, exec (decode s.esc (mkTxn 0b001 d)) t = .refused .reservedTxn

/-- `42_link_fsm.md` R145, with the spec's choice D14: from every state, only `LS` is written; with `data` not `0x00`
the word is refused. -/
def Obligations.LinkReadWritesOnlyTheLinkState : Prop :=
  ∀ (c : Config) (s : Block c),
    exec .linkRead ⟨c, s⟩ = .next ⟨c, { s with ls := .read, actOut := [], cmdOut := [], recOut := none }⟩ ∧
    decode s.esc 0x200 = .linkRead ∧
    ∀ d : Byte, d ≠ 0 → ∀ t : State, exec (decode s.esc (mkTxn 0b010 d)) t = .refused .reservedTxn

/-- `42_link_fsm.md` R146, a derivation of the spec: "These are all the transitions of `LS`", with the outputs of
each. -/
def Obligations.LinkStateTransitions : Prop :=
  ∀ (c : Config) (s t : Block c) (i : Instr), exec i ⟨c, s⟩ = .next ⟨c, t⟩ →
    (∀ b, appendedByte i = some b → completes i s = true →
      (verify c (s.frameWith b) = false → t.ls = s.ls ∧ t.actOut = [.discardBadCrc] ∧ t.cmdOut = [] ∧ t.recOut = none) ∧
      (verify c (s.frameWith b) = true →
        (s.ls = .init → t.ls = .read ∧ t.epoch = s.rtcIn ∧ t.actOut = [.handshake s.rtcIn] ∧
          t.cmdOut = [.syncTime 0x00, .enableStreaming] ∧ t.recOut = none) ∧
        (s.ls = .read → t.ls = .read ∧ t.actOut = [.frameReady] ∧ t.cmdOut = [] ∧
          t.recOut = some (parse c (s.frameWith b) s.epoch)) ∧
        (s.ls = .undef2 ∨ s.ls = .undef3 →
          t.ls = s.ls ∧ t.actOut = [.discardBadState] ∧ t.cmdOut = [] ∧ t.recOut = none))) ∧
    (completes i s = false →
      t.Quiet ∧
      t.ls = (if i = .linkInit then .init else if i = .linkRead then .read
              else if i = .reset then c.lsReset else s.ls))

/-- `10_state.md` R24, a derivation of the spec: "`LS` reaches one of them only when `LS_RESET` names it." -/
def Obligations.UnknownStateOnlyByReset : Prop :=
  ∀ (c : Config) (s t : Block c), step ⟨c, s⟩ = .next ⟨c, t⟩ → (t.ls = .undef2 ∨ t.ls = .undef3) →
    t.ls = s.ls ∨ t.ls = c.lsReset

/-- `10_state.md` R25: only a handshake, with `rtc_in`, and RESET, with `EPOCH_RESET`, write `EPOCH`. -/
def Obligations.EpochWrittenOnlyByHandshakeOrReset : Prop :=
  ∀ (c : Config) (s t : Block c) (i : Instr), exec i ⟨c, s⟩ = .next ⟨c, t⟩ →
    t.epoch = (if i = .reset then c.epochReset else if t.shookHands then s.rtcIn else s.epoch)

/-- `42_link_fsm.md` R148, a derivation of the spec: with no LINK_INIT and no RESET among the offered words, a run of
any length without the refusal mark has at most one handshake, and none unless it starts in INIT. Of a run with the
mark nothing is claimed (`60_exceptions.md` R202). -/
def Obligations.OneHandshakePerResetCycle : Prop :=
  ∀ (n : Nat) (c : Config) (s : Block c), (∀ inp ∈ s.pending.take n, inp.txn ≠ 0x100 ∧ inp.txn ≠ 0x300) →
    ∀ states : List State, run n ⟨c, s⟩ = .visited states →
      (states.filter fun t => t.blk.shookHands).length ≤ (if s.ls = .init then 1 else 0)

/-- `10_state.md` R27: "In every other step it is ignored": but for a handshake, another value on `rtc_in` gives the
same step. -/
def Obligations.RtcIsReadOnlyByTheHandshake : Prop :=
  ∀ (c : Config) (s t : Block c) (i : Instr) (v : BitVec c.rtcW), exec i ⟨c, s⟩ = .next ⟨c, t⟩ →
    t.shookHands = false → exec i ⟨c, { s with rtcIn := v }⟩ = .next ⟨c, { t with rtcIn := v }⟩

/-- `70_reset_and_hazards.md` R225, a derivation of the spec: LINK_READ, in INIT or any other link state, pre-empts the
handshake. While no LINK_INIT and no RESET is offered, every later state of a run without the refusal mark
(`60_exceptions.md` R202) has no handshake, `LS = READ`, the old `EPOCH` and no command, and each frame completed on the
way is delivered with that epoch or dropped with DISCARD_BADCRC. The hazard itself, as in P3: LINK_READ and then a
signed frame deliver that frame with the old epoch. -/
def Obligations.LinkReadPreemptsTheHandshake : Prop :=
  (∀ (c : Config) (s t : Block c), exec .linkRead ⟨c, s⟩ = .next ⟨c, t⟩ →
    ∀ n : Nat, (∀ inp ∈ t.pending.take n, inp.txn ≠ 0x100 ∧ inp.txn ≠ 0x300) →
      ∀ states : List State, run n ⟨c, t⟩ = .visited states →
      ∃ us : List (Block c), states = us.map (State.mk c) ∧
        (∀ u ∈ us, u.shookHands = false ∧ u.ls = .read ∧ u.epoch = s.epoch ∧ u.cmdOut = []) ∧
        List.IsChain (fun u v => u.ReadOutputs s.epoch v) (t :: us)) ∧
  (∀ (c : Config) (s : Block c) (p : List Byte), c.wf → s.esc = false → p.length = coverLen c →
    ∃ (before : List (Block c)) (u : Block c),
      run (((Statement.sframe p).words c).length + 1) ⟨c, s.loadScript [.linkRead, .sframe p]⟩ =
        .visited (before.map (State.mk c) ++ [⟨c, u⟩]) ∧
      (∀ v ∈ before, v.Quiet) ∧ u.ls = .read ∧ u.epoch = s.epoch ∧ u.cmdOut = [] ∧ u.actOut = [.frameReady] ∧
      u.recOut = some (parse c (signedFrame c p) s.epoch))

/-! ## The frame parser and the operands -/

/-- `20_memory.md` R43: byte `k` of a field value, least significant first, is byte `k` of the field under LE and byte
`w-1-k` under BE. -/
def Obligations.FieldValueIsAssembledInOrder : Prop :=
  ∀ (cf : List Byte) (o w k : Nat), k < w →
    (fieldValue .le cf o w).extractLsb' (8 * k) 8 = frameByte cf (o + k) ∧
    (fieldValue .be cf o w).extractLsb' (8 * k) 8 = frameByte cf (o + (w - 1 - k))

/-- `20_memory.md` R44. -/
def Obligations.StoredCrcIsTheLastTwoBytes : Prop :=
  ∀ (c : Config) (cf : List Byte),
    (c.crcOrder = .le →
      storedCrc c cf = frameByte cf (c.frameLen - 1) ++ frameByte cf (c.frameLen - 2)) ∧
    (c.crcOrder = .be →
      storedCrc c cf = frameByte cf (c.frameLen - 2) ++ frameByte cf (c.frameLen - 1))

/-- `43_frame_parser.md` R163: the sum of the zero-extended timestamp and the epoch, modulo `2^RTC_W`, the spec's
choice D9. -/
def Obligations.TimeWrapsAtTheRtcWidth : Prop :=
  ∀ (n w : Nat) (ts : BitVec n) (epoch : BitVec w), n ≤ w →
    (time w ts epoch).toNat = (ts.toNat + epoch.toNat) % 2 ^ w

/-- `43_frame_parser.md` R160, R162, R164: the record depends on the six carried fields and the two flag bits alone,
not on the `reserved` field, the crc bytes, the other flag bits or any byte no field claims. -/
def Obligations.RecordDependsOnCarriedFieldsOnly : Prop :=
  ∀ (c : Config) (cf cf' : List Byte) (epoch : BitVec c.rtcW),
    (∀ f ∈ [c.layout.voltage, c.layout.current, c.layout.phase, c.layout.temperature, c.layout.timestamp, c.layout.error],
      ∀ k < f.width, frameByte cf (f.offset + k) = frameByte cf' (f.offset + k)) →
    (∀ n : Fin 8, n = c.occBit ∨ n = c.relayBit →
      (frameByte cf c.layout.flags.offset).getLsbD n.val = (frameByte cf' c.layout.flags.offset).getLsbD n.val) →
    parse c cf epoch = parse c cf' epoch

/-! ## Reset, invariants, and the whole link -/

/-- `70_reset_and_hazards.md` R220: every register gets its reset value and no output appears, from every state; with
`data` not `0x00` the word is refused. That `FB` then holds no specified byte, and the draw counter moves on, is the
model's rendering (log entry 6). -/
def Obligations.ResetWritesEveryRegister : Prop :=
  ∀ (c : Config) (s : Block c),
    exec .reset ⟨c, s⟩ = .next ⟨c,
      { s with esc := false, wi := 0, fb := [], ls := c.lsReset, epoch := c.epochReset,
               actOut := [], cmdOut := [], recOut := none, fbDraw := s.fbDraw + 1 }⟩ ∧
    decode s.esc 0x300 = .reset ∧
    ∀ d : Byte, d ≠ 0 → ∀ t : State, exec (decode s.esc (mkTxn 0b011 d)) t = .refused .reservedTxn

/-- `10_state.md` R29 for every configuration; that `State.reset` is that block at REFCFG is the model's choice (log
entry 2). -/
def Obligations.ResetStateHoldsTheResetValues : Prop :=
  (∀ c : Config, (Block.reset c).esc = false ∧ (Block.reset c).wi = 0 ∧ (Block.reset c).ls = c.lsReset ∧
    (Block.reset c).epoch = c.epochReset ∧ (Block.reset c).Quiet) ∧
  State.reset = ⟨Config.ref, Block.reset Config.ref⟩ ∧ State.reset.blk.ls = .init ∧ State.reset.blk.epoch.toNat = 0

/-- `10_state.md` R22, R24, `20_memory.md` R40, R41: every step keeps the invariant of the state. -/
def Obligations.StepKeepsTheInvariant : Prop :=
  ∀ s t : State, s.Inv → step s = .next t → t.Inv

/-- The invariant holds right after reset, for every configuration within its constraints. -/
def Obligations.ResetMeetsTheInvariant : Prop :=
  (∀ c : Config, c.wf → (Block.reset c).Inv) ∧ State.reset.Inv

/-- `30_encoding.md` R75, `42_link_fsm.md` R141, R142, `41_deframer.md` R131: an SFRAME statement run from any state
with `ESC = 0`, in any configuration, ends in the handshake when the link is in INIT and in the record of the payload
when it is in READ. -/
def Obligations.SignedFrameReachesTheDriver : Prop :=
  ∀ (c : Config) (s : Block c) (p : List Byte), c.wf → s.esc = false → p.length = coverLen c →
    ∃ (before : List (Block c)) (t : Block c),
      run ((Statement.sframe p).words c).length ⟨c, s.loadScript [.sframe p]⟩ =
        .visited (before.map (State.mk c) ++ [⟨c, t⟩]) ∧
      before.length + 1 = ((Statement.sframe p).words c).length ∧
      (∀ u ∈ before, u.Quiet) ∧ t.wi = 0 ∧ t.esc = false ∧ t.pending = [] ∧
      (s.ls = .init → t.ls = .read ∧ t.epoch = 0 ∧ t.actOut = [.handshake 0] ∧
        t.cmdOut = [.syncTime 0x00, .enableStreaming]) ∧
      (s.ls = .read → t.ls = .read ∧ t.epoch = s.epoch ∧ t.actOut = [.frameReady] ∧
        t.recOut = some (parse c (signedFrame c p) s.epoch))

/-! ## Output encodings -/

/-- `10_state.md` R24 and `30_encoding.md` R71: the codes on the ports. -/
def Obligations.PortCodes : Prop :=
  linkCode .init = 0b00 ∧ linkCode .read = 0b01 ∧ linkCode .undef2 = 0b10 ∧ linkCode .undef3 = 0b11 ∧
  ∀ (c : Config) (e : BitVec c.rtcW),
    actionCode (Action.discardBadCrc (c := c)) = 0b001 ∧ actionCode (Action.discardBadState (c := c)) = 0b010 ∧
    actionCode (Action.handshake e) = 0b011 ∧ actionCode (Action.frameReady (c := c)) = 0b100

/-- `30_encoding.md` R72, the reference command frame: its bytes, and their sum `0xFF` modulo 256. -/
def Obligations.CommandFrameSumsToFF : Prop :=
  ∀ (type : BitVec 4) (payload : Byte), ∃ b0 b1 b2 : Byte, commandFrame type payload = [b0, b1, b2] ∧
    b0.toNat = type.toNat * 16 ∧ b1 = payload ∧ b2.toNat = 0xFF - (b0.toNat + b1.toNat) % 256 ∧
    (b0.toNat + b1.toNat + b2.toNat) % 256 = 0xFF
end

