-- ==== Sys2Proof/Laws/Crc16.lean ====
section
/-! SUPPORT. CRC_STEP: linear, and injective in each argument. -/

namespace Sys2Proof.Machine

/-- Reordering an exclusive or of four values. -/
theorem xor4 (a b c d : Crc) : (a ^^^ b) ^^^ (c ^^^ d) = (a ^^^ c) ^^^ (b ^^^ d) := by
  rw [BitVec.xor_assoc, BitVec.xor_assoc, ← BitVec.xor_assoc b, ← BitVec.xor_assoc c, BitVec.xor_comm b c]

/-- CRC_STEP is linear in the accumulator and the byte together. -/
theorem crcStep_xor (a b : Crc) (x y : Byte) :
    crcStep (a ^^^ b) (x ^^^ y) = crcStep a x ^^^ crcStep b y := by
  have h1 : ∀ p q : Crc, ((p ^^^ q) ^^^ (p ^^^ q) >>> 4) = (p ^^^ p >>> 4) ^^^ (q ^^^ q >>> 4) := by
    intro p q; rw [BitVec.ushiftRight_xor_distrib, xor4]
  have h2 : ∀ p q u v : Crc, (u ^^^ v) <<< 8 ^^^ (p ^^^ q) <<< 12 ^^^ (p ^^^ q) <<< 5 ^^^ (p ^^^ q) =
      (u <<< 8 ^^^ p <<< 12 ^^^ p <<< 5 ^^^ p) ^^^ (v <<< 8 ^^^ q <<< 12 ^^^ q <<< 5 ^^^ q) := by
    intro p q u v
    rw [BitVec.shiftLeft_xor_distrib, BitVec.shiftLeft_xor_distrib, BitVec.shiftLeft_xor_distrib,
      xor4 (u <<< 8), xor4 (u <<< 8 ^^^ _), xor4 (u <<< 8 ^^^ _ ^^^ _)]
  have h0 : (a ^^^ b) >>> 8 ^^^ (x ^^^ y).setWidth 16 =
      (a >>> 8 ^^^ x.setWidth 16) ^^^ (b >>> 8 ^^^ y.setWidth 16) := by
    rw [BitVec.ushiftRight_xor_distrib, BitVec.setWidth_xor, xor4]
  simp only [crcStep]
  rw [h0, h1, h2]

/-- From a zero accumulator only the zero byte leaves the low byte zero. -/
theorem crcStep_low : ∀ b : Byte, (crcStep 0 b).setWidth 8 = 0#8 → b = 0 := by decide

/-- CRC_STEP by the high byte of the accumulator. -/
theorem crcStep_fold (crc : Crc) (b : Byte) :
    crcStep crc b = (crc <<< 8) ^^^ crcStep 0 ((crc >>> 8).setWidth 8 ^^^ b) := by
  have h : crc >>> 8 ^^^ b.setWidth 16 = ((crc >>> 8).setWidth 8 ^^^ b).setWidth 16 := by
    apply BitVec.eq_of_getLsbD_eq
    intro i hi
    simp only [BitVec.getLsbD_xor, BitVec.getLsbD_setWidth, BitVec.getLsbD_ushiftRight]
    by_cases h8 : i < 8
    · simp [h8, hi]
    · have : crc.getLsbD (8+i) = false := BitVec.getLsbD_of_ge _ _ (by omega)
      have h9 : b.getLsbD i = false := BitVec.getLsbD_of_ge _ _ (by omega)
      simp [h8, hi, this]
  simp only [crcStep, h]
  simp [BitVec.xor_assoc]

/-- What CRC_STEP takes to zero. -/
theorem crcStep_ker {crc : Crc} {b : Byte} (h : crcStep crc b = 0) : (crc >>> 8).setWidth 8 = b ∧ crc <<< 8 = 0 := by
  rw [crcStep_fold] at h
  have h2 := congrArg (BitVec.setWidth 8) h
  have h3 : (crcStep 0 ((crc >>> 8).setWidth 8 ^^^ b)).setWidth 8 = 0#8 := by
    rw [BitVec.setWidth_xor] at h2
    have : (crc <<< 8).setWidth 8 = 0#8 := by
      apply BitVec.eq_of_getLsbD_eq
      intro i hi
      simp [hi]
    rw [this] at h2
    simpa using h2
  have h4 := crcStep_low _ h3
  have h5 : (crc >>> 8).setWidth 8 = b := by
    simpa using h4
  refine ⟨h5, ?_⟩
  rw [h4] at h
  have h0 : crcStep 0 0 = 0#16 := by decide
  rw [show (0 : Crc) = 0#16 from rfl, show (0 : Byte) = 0#8 from rfl] at *
  rw [h0] at h
  simpa using h

/-- CRC_STEP tells accumulators apart. -/
theorem crcStep_inj_crc {a a' : Crc} {b : Byte} (h : crcStep a b = crcStep a' b) : a = a' := by
  have h1 : crcStep (a ^^^ a') (b ^^^ b) = 0 := by rw [crcStep_xor, h]; simp
  obtain ⟨h2, h3⟩ := crcStep_ker h1
  have : a ^^^ a' = 0#16 := by
    apply BitVec.eq_of_getLsbD_eq
    intro i hi
    by_cases h8 : i < 8
    · have := congrArg (fun v : Crc => v.getLsbD (i+8)) h3
      simp only [BitVec.getLsbD_shiftLeft] at this
      have e : i + 8 - 8 = i := by omega
      have e2 : i + 8 < 16 := by omega
      have e3 : ¬ (i + 8 < 8) := by omega
      rw [e] at this
      simp only [e2, e3, decide_true, decide_false] at this
      simpa using this
    · have := congrArg (fun v : Byte => v.getLsbD (i-8)) h2
      simp only [BitVec.getLsbD_setWidth, BitVec.getLsbD_ushiftRight] at this
      have e : 8 + (i - 8) = i := by omega
      have e2 : i - 8 < 8 := by omega
      rw [e] at this
      simp only [e2, decide_true] at this
      simpa using this
  simpa using this

/-- CRC_STEP tells bytes apart. -/
theorem crcStep_inj_byte {a : Crc} {b b' : Byte} (h : crcStep a b = crcStep a b') : b = b' := by
  have h1 : crcStep (a ^^^ a) (b ^^^ b') = 0 := by rw [crcStep_xor, h]; simp
  obtain ⟨h2, -⟩ := crcStep_ker h1
  simp at h2
  exact (by simpa using h2.symm : b = b')

end Sys2Proof.Machine
end

