-- ==== Sys2Proof/Laws/Decode.lean ====
section
/-! SUPPORT. The two fields of a transaction word. -/

namespace Sys2Proof

/-- The bits of a word: the data below bit 8, the kind above. -/
theorem mkTxn_getLsbD (k : BitVec 3) (d : Byte) (i : Nat) :
    (mkTxn k d).getLsbD i = if i < 8 then d.getLsbD i else k.getLsbD (i - 8) := by
  change BitVec.getLsbD (w := 3 + 8) (k ++ d) i = _
  rw [BitVec.getLsbD_append]

@[simp] theorem txnKind_mkTxn (k : BitVec 3) (d : Byte) : txnKind (mkTxn k d) = k := by
  apply BitVec.eq_of_getLsbD_eq
  intro i hi
  simp [txnKind, mkTxn_getLsbD, hi]

@[simp] theorem txnData_mkTxn (k : BitVec 3) (d : Byte) : txnData (mkTxn k d) = d := by
  apply BitVec.eq_of_getLsbD_eq
  intro i hi
  simp [txnData, mkTxn_getLsbD, hi]

/-- A word is its two fields. -/
theorem mkTxn_fields (w : Txn) : mkTxn (txnKind w) (txnData w) = w := by
  apply BitVec.eq_of_getLsbD_eq
  intro i hi
  rw [mkTxn_getLsbD]
  split
  · simp [txnData, *]
  · have h1 : i - 8 < 3 := by omega
    have h2 : 8 + (i - 8) = i := by omega
    simp [txnKind, h1, h2]

/-- Decoding of a word given by its two fields. -/
theorem decode_mkTxn (esc : Bool) (k : BitVec 3) (d : Byte) : decode esc (mkTxn k d) =
    if k = 0 then decodeFeed esc d
    else if 4 ≤ k.toNat then .reservedKind (k.setWidth 2) d
    else if d ≠ 0 then .reservedData (k.setWidth 2) d
    else if k = 1 then .linkInit
    else if k = 2 then .linkRead
    else .reset := by simp [decode]

end Sys2Proof
end

