-- ==== Sys2Proof/Laws/State.lean ====
section
/-! SUPPORT. What each named update of the block does to each field. -/

namespace Sys2Proof.Machine

variable {c : Config} (s : Block c)

/-! ## `Block.beginStep` -/

@[simp] theorem Block.beginStep_esc : s.beginStep.esc = s.esc := rfl
@[simp] theorem Block.beginStep_wi : s.beginStep.wi = s.wi := rfl
@[simp] theorem Block.beginStep_fb : s.beginStep.fb = s.fb := rfl
@[simp] theorem Block.beginStep_ls : s.beginStep.ls = s.ls := rfl
@[simp] theorem Block.beginStep_epoch : s.beginStep.epoch = s.epoch := rfl
@[simp] theorem Block.beginStep_pending : s.beginStep.pending = s.pending := rfl
@[simp] theorem Block.beginStep_rtcIn : s.beginStep.rtcIn = s.rtcIn := rfl
@[simp] theorem Block.beginStep_actOut : s.beginStep.actOut = [] := rfl
@[simp] theorem Block.beginStep_cmdOut : s.beginStep.cmdOut = [] := rfl
@[simp] theorem Block.beginStep_recOut : s.beginStep.recOut = none := rfl
@[simp] theorem Block.beginStep_fbDraw : s.beginStep.fbDraw = s.fbDraw := rfl

/-! ## `Block.setEsc` -/

@[simp] theorem Block.setEsc_esc : s.setEsc.esc = true := rfl
@[simp] theorem Block.setEsc_wi : s.setEsc.wi = s.wi := rfl
@[simp] theorem Block.setEsc_fb : s.setEsc.fb = s.fb := rfl
@[simp] theorem Block.setEsc_ls : s.setEsc.ls = s.ls := rfl
@[simp] theorem Block.setEsc_epoch : s.setEsc.epoch = s.epoch := rfl
@[simp] theorem Block.setEsc_pending : s.setEsc.pending = s.pending := rfl
@[simp] theorem Block.setEsc_rtcIn : s.setEsc.rtcIn = s.rtcIn := rfl
@[simp] theorem Block.setEsc_actOut : s.setEsc.actOut = s.actOut := rfl
@[simp] theorem Block.setEsc_cmdOut : s.setEsc.cmdOut = s.cmdOut := rfl
@[simp] theorem Block.setEsc_recOut : s.setEsc.recOut = s.recOut := rfl
@[simp] theorem Block.setEsc_fbDraw : s.setEsc.fbDraw = s.fbDraw := rfl

/-! ## `Block.clearEsc` -/

@[simp] theorem Block.clearEsc_esc : s.clearEsc.esc = false := rfl
@[simp] theorem Block.clearEsc_wi : s.clearEsc.wi = s.wi := rfl
@[simp] theorem Block.clearEsc_fb : s.clearEsc.fb = s.fb := rfl
@[simp] theorem Block.clearEsc_ls : s.clearEsc.ls = s.ls := rfl
@[simp] theorem Block.clearEsc_epoch : s.clearEsc.epoch = s.epoch := rfl
@[simp] theorem Block.clearEsc_pending : s.clearEsc.pending = s.pending := rfl
@[simp] theorem Block.clearEsc_rtcIn : s.clearEsc.rtcIn = s.rtcIn := rfl
@[simp] theorem Block.clearEsc_actOut : s.clearEsc.actOut = s.actOut := rfl
@[simp] theorem Block.clearEsc_cmdOut : s.clearEsc.cmdOut = s.cmdOut := rfl
@[simp] theorem Block.clearEsc_recOut : s.clearEsc.recOut = s.recOut := rfl
@[simp] theorem Block.clearEsc_fbDraw : s.clearEsc.fbDraw = s.fbDraw := rfl

/-! ## `Block.setWi` -/

@[simp] theorem Block.setWi_esc (n : Nat) : (s.setWi n).esc = s.esc := rfl
@[simp] theorem Block.setWi_wi (n : Nat) : (s.setWi n).wi = n := rfl
@[simp] theorem Block.setWi_fb (n : Nat) : (s.setWi n).fb = s.fb := rfl
@[simp] theorem Block.setWi_ls (n : Nat) : (s.setWi n).ls = s.ls := rfl
@[simp] theorem Block.setWi_epoch (n : Nat) : (s.setWi n).epoch = s.epoch := rfl
@[simp] theorem Block.setWi_pending (n : Nat) : (s.setWi n).pending = s.pending := rfl
@[simp] theorem Block.setWi_rtcIn (n : Nat) : (s.setWi n).rtcIn = s.rtcIn := rfl
@[simp] theorem Block.setWi_actOut (n : Nat) : (s.setWi n).actOut = s.actOut := rfl
@[simp] theorem Block.setWi_cmdOut (n : Nat) : (s.setWi n).cmdOut = s.cmdOut := rfl
@[simp] theorem Block.setWi_recOut (n : Nat) : (s.setWi n).recOut = s.recOut := rfl
@[simp] theorem Block.setWi_fbDraw (n : Nat) : (s.setWi n).fbDraw = s.fbDraw := rfl

/-! ## `Block.setLs` -/

@[simp] theorem Block.setLs_esc (v : LinkState) : (s.setLs v).esc = s.esc := rfl
@[simp] theorem Block.setLs_wi (v : LinkState) : (s.setLs v).wi = s.wi := rfl
@[simp] theorem Block.setLs_fb (v : LinkState) : (s.setLs v).fb = s.fb := rfl
@[simp] theorem Block.setLs_ls (v : LinkState) : (s.setLs v).ls = v := rfl
@[simp] theorem Block.setLs_epoch (v : LinkState) : (s.setLs v).epoch = s.epoch := rfl
@[simp] theorem Block.setLs_pending (v : LinkState) : (s.setLs v).pending = s.pending := rfl
@[simp] theorem Block.setLs_rtcIn (v : LinkState) : (s.setLs v).rtcIn = s.rtcIn := rfl
@[simp] theorem Block.setLs_actOut (v : LinkState) : (s.setLs v).actOut = s.actOut := rfl
@[simp] theorem Block.setLs_cmdOut (v : LinkState) : (s.setLs v).cmdOut = s.cmdOut := rfl
@[simp] theorem Block.setLs_recOut (v : LinkState) : (s.setLs v).recOut = s.recOut := rfl
@[simp] theorem Block.setLs_fbDraw (v : LinkState) : (s.setLs v).fbDraw = s.fbDraw := rfl

/-! ## `Block.setEpoch` -/

@[simp] theorem Block.setEpoch_esc (v : BitVec c.rtcW) : (s.setEpoch v).esc = s.esc := rfl
@[simp] theorem Block.setEpoch_wi (v : BitVec c.rtcW) : (s.setEpoch v).wi = s.wi := rfl
@[simp] theorem Block.setEpoch_fb (v : BitVec c.rtcW) : (s.setEpoch v).fb = s.fb := rfl
@[simp] theorem Block.setEpoch_ls (v : BitVec c.rtcW) : (s.setEpoch v).ls = s.ls := rfl
@[simp] theorem Block.setEpoch_epoch (v : BitVec c.rtcW) : (s.setEpoch v).epoch = v := rfl
@[simp] theorem Block.setEpoch_pending (v : BitVec c.rtcW) : (s.setEpoch v).pending = s.pending := rfl
@[simp] theorem Block.setEpoch_rtcIn (v : BitVec c.rtcW) : (s.setEpoch v).rtcIn = s.rtcIn := rfl
@[simp] theorem Block.setEpoch_actOut (v : BitVec c.rtcW) : (s.setEpoch v).actOut = s.actOut := rfl
@[simp] theorem Block.setEpoch_cmdOut (v : BitVec c.rtcW) : (s.setEpoch v).cmdOut = s.cmdOut := rfl
@[simp] theorem Block.setEpoch_recOut (v : BitVec c.rtcW) : (s.setEpoch v).recOut = s.recOut := rfl
@[simp] theorem Block.setEpoch_fbDraw (v : BitVec c.rtcW) : (s.setEpoch v).fbDraw = s.fbDraw := rfl

/-! ## `Block.memWrite` -/

@[simp] theorem Block.memWrite_esc (i : Nat) (b : Byte) : (s.memWrite i b).esc = s.esc := rfl
@[simp] theorem Block.memWrite_wi (i : Nat) (b : Byte) : (s.memWrite i b).wi = s.wi := rfl
@[simp] theorem Block.memWrite_fb (i : Nat) (b : Byte) : (s.memWrite i b).fb = s.fb.write i b := rfl
@[simp] theorem Block.memWrite_ls (i : Nat) (b : Byte) : (s.memWrite i b).ls = s.ls := rfl
@[simp] theorem Block.memWrite_epoch (i : Nat) (b : Byte) : (s.memWrite i b).epoch = s.epoch := rfl
@[simp] theorem Block.memWrite_pending (i : Nat) (b : Byte) : (s.memWrite i b).pending = s.pending := rfl
@[simp] theorem Block.memWrite_rtcIn (i : Nat) (b : Byte) : (s.memWrite i b).rtcIn = s.rtcIn := rfl
@[simp] theorem Block.memWrite_actOut (i : Nat) (b : Byte) : (s.memWrite i b).actOut = s.actOut := rfl
@[simp] theorem Block.memWrite_cmdOut (i : Nat) (b : Byte) : (s.memWrite i b).cmdOut = s.cmdOut := rfl
@[simp] theorem Block.memWrite_recOut (i : Nat) (b : Byte) : (s.memWrite i b).recOut = s.recOut := rfl
@[simp] theorem Block.memWrite_fbDraw (i : Nat) (b : Byte) : (s.memWrite i b).fbDraw = s.fbDraw := rfl

/-! ## `Block.fbForget` -/

@[simp] theorem Block.fbForget_esc : s.fbForget.esc = s.esc := rfl
@[simp] theorem Block.fbForget_wi : s.fbForget.wi = s.wi := rfl
@[simp] theorem Block.fbForget_fb : s.fbForget.fb = [] := rfl
@[simp] theorem Block.fbForget_ls : s.fbForget.ls = s.ls := rfl
@[simp] theorem Block.fbForget_epoch : s.fbForget.epoch = s.epoch := rfl
@[simp] theorem Block.fbForget_pending : s.fbForget.pending = s.pending := rfl
@[simp] theorem Block.fbForget_rtcIn : s.fbForget.rtcIn = s.rtcIn := rfl
@[simp] theorem Block.fbForget_actOut : s.fbForget.actOut = s.actOut := rfl
@[simp] theorem Block.fbForget_cmdOut : s.fbForget.cmdOut = s.cmdOut := rfl
@[simp] theorem Block.fbForget_recOut : s.fbForget.recOut = s.recOut := rfl
@[simp] theorem Block.fbForget_fbDraw : s.fbForget.fbDraw = s.fbDraw + 1 := rfl

/-! ## `Block.emit` -/

@[simp] theorem Block.emit_esc (a : Action c) : (s.emit a).esc = s.esc := rfl
@[simp] theorem Block.emit_wi (a : Action c) : (s.emit a).wi = s.wi := rfl
@[simp] theorem Block.emit_fb (a : Action c) : (s.emit a).fb = s.fb := rfl
@[simp] theorem Block.emit_ls (a : Action c) : (s.emit a).ls = s.ls := rfl
@[simp] theorem Block.emit_epoch (a : Action c) : (s.emit a).epoch = s.epoch := rfl
@[simp] theorem Block.emit_pending (a : Action c) : (s.emit a).pending = s.pending := rfl
@[simp] theorem Block.emit_rtcIn (a : Action c) : (s.emit a).rtcIn = s.rtcIn := rfl
@[simp] theorem Block.emit_actOut (a : Action c) : (s.emit a).actOut = s.actOut ++ [a] := rfl
@[simp] theorem Block.emit_cmdOut (a : Action c) : (s.emit a).cmdOut = s.cmdOut := rfl
@[simp] theorem Block.emit_recOut (a : Action c) : (s.emit a).recOut = s.recOut := rfl
@[simp] theorem Block.emit_fbDraw (a : Action c) : (s.emit a).fbDraw = s.fbDraw := rfl

/-! ## `Block.discard` -/

@[simp] theorem Block.discard_esc (a : Action c) : (s.discard a).esc = s.esc := rfl
@[simp] theorem Block.discard_wi (a : Action c) : (s.discard a).wi = s.wi := rfl
@[simp] theorem Block.discard_fb (a : Action c) : (s.discard a).fb = s.fb := rfl
@[simp] theorem Block.discard_ls (a : Action c) : (s.discard a).ls = s.ls := rfl
@[simp] theorem Block.discard_epoch (a : Action c) : (s.discard a).epoch = s.epoch := rfl
@[simp] theorem Block.discard_pending (a : Action c) : (s.discard a).pending = s.pending := rfl
@[simp] theorem Block.discard_rtcIn (a : Action c) : (s.discard a).rtcIn = s.rtcIn := rfl
@[simp] theorem Block.discard_actOut (a : Action c) : (s.discard a).actOut = s.actOut ++ [a] := rfl
@[simp] theorem Block.discard_cmdOut (a : Action c) : (s.discard a).cmdOut = s.cmdOut := rfl
@[simp] theorem Block.discard_recOut (a : Action c) : (s.discard a).recOut = s.recOut := rfl
@[simp] theorem Block.discard_fbDraw (a : Action c) : (s.discard a).fbDraw = s.fbDraw := rfl

/-! ## `Block.request` -/

@[simp] theorem Block.request_esc (r : Command) : (s.request r).esc = s.esc := rfl
@[simp] theorem Block.request_wi (r : Command) : (s.request r).wi = s.wi := rfl
@[simp] theorem Block.request_fb (r : Command) : (s.request r).fb = s.fb := rfl
@[simp] theorem Block.request_ls (r : Command) : (s.request r).ls = s.ls := rfl
@[simp] theorem Block.request_epoch (r : Command) : (s.request r).epoch = s.epoch := rfl
@[simp] theorem Block.request_pending (r : Command) : (s.request r).pending = s.pending := rfl
@[simp] theorem Block.request_rtcIn (r : Command) : (s.request r).rtcIn = s.rtcIn := rfl
@[simp] theorem Block.request_actOut (r : Command) : (s.request r).actOut = s.actOut := rfl
@[simp] theorem Block.request_cmdOut (r : Command) : (s.request r).cmdOut = s.cmdOut ++ [r] := rfl
@[simp] theorem Block.request_recOut (r : Command) : (s.request r).recOut = s.recOut := rfl
@[simp] theorem Block.request_fbDraw (r : Command) : (s.request r).fbDraw = s.fbDraw := rfl

/-! ## `Block.present` -/

@[simp] theorem Block.present_esc (r : ParsedRecord c) : (s.present r).esc = s.esc := rfl
@[simp] theorem Block.present_wi (r : ParsedRecord c) : (s.present r).wi = s.wi := rfl
@[simp] theorem Block.present_fb (r : ParsedRecord c) : (s.present r).fb = s.fb := rfl
@[simp] theorem Block.present_ls (r : ParsedRecord c) : (s.present r).ls = s.ls := rfl
@[simp] theorem Block.present_epoch (r : ParsedRecord c) : (s.present r).epoch = s.epoch := rfl
@[simp] theorem Block.present_pending (r : ParsedRecord c) : (s.present r).pending = s.pending := rfl
@[simp] theorem Block.present_rtcIn (r : ParsedRecord c) : (s.present r).rtcIn = s.rtcIn := rfl
@[simp] theorem Block.present_actOut (r : ParsedRecord c) : (s.present r).actOut = s.actOut := rfl
@[simp] theorem Block.present_cmdOut (r : ParsedRecord c) : (s.present r).cmdOut = s.cmdOut := rfl
@[simp] theorem Block.present_recOut (r : ParsedRecord c) : (s.present r).recOut = some r := rfl
@[simp] theorem Block.present_fbDraw (r : ParsedRecord c) : (s.present r).fbDraw = s.fbDraw := rfl

/-! ## `Block.offer` -/

@[simp] theorem Block.offer_esc (ins : List (Input c)) : (s.offer ins).esc = s.esc := rfl
@[simp] theorem Block.offer_wi (ins : List (Input c)) : (s.offer ins).wi = s.wi := rfl
@[simp] theorem Block.offer_fb (ins : List (Input c)) : (s.offer ins).fb = s.fb := rfl
@[simp] theorem Block.offer_ls (ins : List (Input c)) : (s.offer ins).ls = s.ls := rfl
@[simp] theorem Block.offer_epoch (ins : List (Input c)) : (s.offer ins).epoch = s.epoch := rfl
@[simp] theorem Block.offer_pending (ins : List (Input c)) : (s.offer ins).pending = ins := rfl
@[simp] theorem Block.offer_rtcIn (ins : List (Input c)) : (s.offer ins).rtcIn = s.rtcIn := rfl
@[simp] theorem Block.offer_actOut (ins : List (Input c)) : (s.offer ins).actOut = s.actOut := rfl
@[simp] theorem Block.offer_cmdOut (ins : List (Input c)) : (s.offer ins).cmdOut = s.cmdOut := rfl
@[simp] theorem Block.offer_recOut (ins : List (Input c)) : (s.offer ins).recOut = s.recOut := rfl
@[simp] theorem Block.offer_fbDraw (ins : List (Input c)) : (s.offer ins).fbDraw = s.fbDraw := rfl

/-! ## `Block.accept` -/

@[simp] theorem Block.accept_esc (inp : Input c) (rest : List (Input c)) : (s.accept inp rest).esc = s.esc := rfl
@[simp] theorem Block.accept_wi (inp : Input c) (rest : List (Input c)) : (s.accept inp rest).wi = s.wi := rfl
@[simp] theorem Block.accept_fb (inp : Input c) (rest : List (Input c)) : (s.accept inp rest).fb = s.fb := rfl
@[simp] theorem Block.accept_ls (inp : Input c) (rest : List (Input c)) : (s.accept inp rest).ls = s.ls := rfl
@[simp] theorem Block.accept_epoch (inp : Input c) (rest : List (Input c)) : (s.accept inp rest).epoch = s.epoch := rfl
@[simp] theorem Block.accept_pending (inp : Input c) (rest : List (Input c)) : (s.accept inp rest).pending = rest := rfl
@[simp] theorem Block.accept_rtcIn (inp : Input c) (rest : List (Input c)) : (s.accept inp rest).rtcIn = inp.rtc := rfl
@[simp] theorem Block.accept_actOut (inp : Input c) (rest : List (Input c)) : (s.accept inp rest).actOut = s.actOut := rfl
@[simp] theorem Block.accept_cmdOut (inp : Input c) (rest : List (Input c)) : (s.accept inp rest).cmdOut = s.cmdOut := rfl
@[simp] theorem Block.accept_recOut (inp : Input c) (rest : List (Input c)) : (s.accept inp rest).recOut = s.recOut := rfl
@[simp] theorem Block.accept_fbDraw (inp : Input c) (rest : List (Input c)) : (s.accept inp rest).fbDraw = s.fbDraw := rfl

/-! ## `Block.handshake` -/

@[simp] theorem Block.handshake_esc : s.handshake.esc = s.esc := rfl
@[simp] theorem Block.handshake_wi : s.handshake.wi = s.wi := rfl
@[simp] theorem Block.handshake_fb : s.handshake.fb = s.fb := rfl
@[simp] theorem Block.handshake_ls : s.handshake.ls = .read := rfl
@[simp] theorem Block.handshake_epoch : s.handshake.epoch = s.rtcIn := rfl
@[simp] theorem Block.handshake_pending : s.handshake.pending = s.pending := rfl
@[simp] theorem Block.handshake_rtcIn : s.handshake.rtcIn = s.rtcIn := rfl
@[simp] theorem Block.handshake_actOut : s.handshake.actOut = s.actOut ++ [.handshake s.rtcIn] := rfl
@[simp] theorem Block.handshake_cmdOut : s.handshake.cmdOut = s.cmdOut ++ [.syncTime 0x00, .enableStreaming] := by
  simp [Block.handshake, Block.request, Block.setEpoch, Block.setLs, Block.emit]
@[simp] theorem Block.handshake_recOut : s.handshake.recOut = s.recOut := rfl
@[simp] theorem Block.handshake_fbDraw : s.handshake.fbDraw = s.fbDraw := rfl

/-! ## `Block.deliver` -/

@[simp] theorem Block.deliver_esc (cf : List Byte) : (s.deliver cf).esc = s.esc := rfl
@[simp] theorem Block.deliver_wi (cf : List Byte) : (s.deliver cf).wi = s.wi := rfl
@[simp] theorem Block.deliver_fb (cf : List Byte) : (s.deliver cf).fb = s.fb := rfl
@[simp] theorem Block.deliver_ls (cf : List Byte) : (s.deliver cf).ls = s.ls := rfl
@[simp] theorem Block.deliver_epoch (cf : List Byte) : (s.deliver cf).epoch = s.epoch := rfl
@[simp] theorem Block.deliver_pending (cf : List Byte) : (s.deliver cf).pending = s.pending := rfl
@[simp] theorem Block.deliver_rtcIn (cf : List Byte) : (s.deliver cf).rtcIn = s.rtcIn := rfl
@[simp] theorem Block.deliver_actOut (cf : List Byte) : (s.deliver cf).actOut = s.actOut ++ [.frameReady] := rfl
@[simp] theorem Block.deliver_cmdOut (cf : List Byte) : (s.deliver cf).cmdOut = s.cmdOut := rfl
@[simp] theorem Block.deliver_recOut (cf : List Byte) : (s.deliver cf).recOut = some (parse c cf s.epoch) := rfl
@[simp] theorem Block.deliver_fbDraw (cf : List Byte) : (s.deliver cf).fbDraw = s.fbDraw := rfl

/-! ## Reset -/

@[simp] theorem Block.reset_esc : (Block.reset c).esc = false := rfl
@[simp] theorem Block.reset_wi : (Block.reset c).wi = 0 := rfl
@[simp] theorem Block.reset_fb : (Block.reset c).fb = [] := rfl
@[simp] theorem Block.reset_ls : (Block.reset c).ls = c.lsReset := rfl
@[simp] theorem Block.reset_epoch : (Block.reset c).epoch = c.epochReset := rfl
@[simp] theorem Block.reset_pending : (Block.reset c).pending = [] := rfl
@[simp] theorem Block.reset_rtcIn : (Block.reset c).rtcIn = 0 := rfl
@[simp] theorem Block.reset_actOut : (Block.reset c).actOut = [] := rfl
@[simp] theorem Block.reset_cmdOut : (Block.reset c).cmdOut = [] := rfl
@[simp] theorem Block.reset_recOut : (Block.reset c).recOut = none := rfl

/-! ## Performing an operation -/

@[simp] theorem State.perform_next {s : State} {f : Block s.cfg → Host.Outcome (Block s.cfg) Fault Refusal} {k : Block s.cfg}
    (h : f s.blk = .next k) : s.perform f = .next ⟨s.cfg, k⟩ := by simp [State.perform, h]

/-- An operation that answers a next state answers the same instance with a next block. -/
theorem State.perform_eq_next {s t : State} {f : Block s.cfg → Host.Outcome (Block s.cfg) Fault Refusal}
    (h : s.perform f = .next t) : ∃ k, f s.blk = .next k ∧ t = ⟨s.cfg, k⟩ := by
  unfold State.perform at h
  split at h
  · exact ⟨_, ‹_›, (Host.Outcome.next.inj h).symm⟩
  · cases h
  · cases h

end Sys2Proof.Machine
end

