-- ==== Sys2Proof/Laws/Memory.lean ====
section
/-! SUPPORT. The frame buffer: read after write, the canonical form, the bytes of the snapshot. -/

namespace Sys2Proof.Machine

variable {c : Config}

@[simp] theorem Memory.read_nil (i : Nat) : Memory.read [] i = none := rfl

theorem Memory.wf_nil : Memory.wf [] := by simp [Memory.wf]

/-- The indices of a written buffer are the old ones and the written one. -/
theorem Memory.mem_keys_write (m : Memory) (i : Nat) (v : Byte) (x : Nat) :
    x ∈ (m.write i v).map Prod.fst ↔ x = i ∨ x ∈ m.map Prod.fst := by
  induction m with
  | nil => simp [Memory.write]
  | cons c m ih =>
    obtain ⟨a, b⟩ := c
    simp only [Memory.write]
    split
    · simp
    split
    · rename_i h; subst h; simp
    · simp only [List.map_cons, List.mem_cons, ih]; tauto

/-- A write keeps the canonical form. -/
theorem Memory.write_wf {m : Memory} (h : m.wf) (i : Nat) (v : Byte) : (m.write i v).wf := by
  induction m with
  | nil => simp [Memory.write, Memory.wf]
  | cons c m ih =>
    obtain ⟨a, b⟩ := c
    obtain ⟨ha, hm⟩ : (∀ x ∈ m.map Prod.fst, a < x) ∧ (m.map Prod.fst).Pairwise (· < ·) := by
      simpa [Memory.wf] using h
    simp only [Memory.write]
    split
    · rename_i hi
      refine List.Pairwise.cons ?_ h
      intro x hx
      rcases List.mem_cons.1 hx with rfl | hx
      · exact hi
      · exact hi.trans (ha x hx)
    split
    · rename_i _ hi; subst hi; exact h
    · refine List.Pairwise.cons ?_ (ih hm)
      intro x hx
      rcases (Memory.mem_keys_write m i v x).1 hx with rfl | hx
      · simp only; omega
      · exact ha x hx

/-- Every operation on the frame buffer keeps the canonical form. -/
theorem Block.memWrite_fb_wf {s : Block c} (h : s.fb.wf) (i : Nat) (b : Byte) : (s.memWrite i b).fb.wf :=
  Memory.write_wf h i b

theorem Block.fbForget_fb_wf (s : Block c) : s.fbForget.fb.wf := Memory.wf_nil

/-- The frame buffer after reset has the canonical form. -/
theorem Block.reset_fb_wf (c : Config) : (Block.reset c).fb.wf := Memory.wf_nil

/-- In a canonical buffer an index below all listed ones holds no specified byte. -/
theorem Memory.read_eq_none {m : Memory} {i : Nat} (h : ∀ x ∈ m.map Prod.fst, i < x) : m.read i = none := by
  induction m with
  | nil => rfl
  | cons c m ih =>
    have hc : i < c.1 := h c.1 (by simp)
    simp only [Memory.read, if_neg (Nat.ne_of_gt hc)]
    exact ih fun x hx => h x (by simp only [List.map_cons, List.mem_cons]; exact Or.inr hx)

/-- A read after a write to the same index gives the written byte. -/
@[simp] theorem Memory.read_write_same (m : Memory) (i : Nat) (v : Byte) : (m.write i v).read i = some v := by
  induction m with
  | nil => simp [Memory.write, Memory.read]
  | cons c m ih =>
    simp only [Memory.write]
    split
    · simp [Memory.read]
    split
    · simp [Memory.read]
    · rename_i h; simp [Memory.read, Ne.symm h, ih]

/-- A write leaves every other index alone. -/
theorem Memory.read_write_ne (m : Memory) {i j : Nat} (v : Byte) (h : j ≠ i) : (m.write i v).read j = m.read j := by
  induction m with
  | nil => simp [Memory.write, Memory.read, h.symm]
  | cons c m ih =>
    simp only [Memory.write]
    split
    · simp [Memory.read, h.symm]
    split
    · rename_i hi; subst hi; simp [Memory.read, h.symm]
    · simp [Memory.read, ih]

theorem Memory.read_write (m : Memory) (i j : Nat) (v : Byte) :
    (m.write i v).read j = if j = i then some v else m.read j := by
  by_cases h : j = i
  · subst h; simp
  · simp [h, Memory.read_write_ne m v h]

/-! ## The bytes a rule reads -/

@[simp] theorem Block.fbByte_memWrite_same (s : Block c) (i : Nat) (b : Byte) : (s.memWrite i b).fbByte i = b := by
  simp [Block.fbByte]

theorem Block.fbByte_memWrite_ne (s : Block c) {i j : Nat} (b : Byte) (h : j ≠ i) :
    (s.memWrite i b).fbByte j = s.fbByte j := by
  simp [Block.fbByte, Memory.read_write_ne _ _ h]

@[simp] theorem Block.memRead_length (s : Block c) (i n : Nat) : (s.memRead i n).length = n := by
  simp [Block.memRead]

@[simp] theorem Block.snapshot_length (s : Block c) : s.snapshot.length = c.frameLen := by
  simp [Block.snapshot]

theorem Block.snapshot_getElem? (s : Block c) {i : Nat} (h : i < c.frameLen) : s.snapshot[i]? = some (s.fbByte i) := by
  simp [Block.snapshot, Block.memRead, h]

/-- The snapshot is decided by the byte at each index of the frame. -/
theorem Block.snapshot_eq {s : Block c} {cf : List Byte} (hl : cf.length = c.frameLen)
    (h : ∀ i < c.frameLen, cf[i]? = some (s.fbByte i)) : s.snapshot = cf := by
  apply List.ext_getElem?
  intro i
  by_cases hi : i < c.frameLen
  · rw [Block.snapshot_getElem? s hi, h i hi]
  · rw [List.getElem?_eq_none (by simp; omega), List.getElem?_eq_none (by omega)]

end Sys2Proof.Machine
end

