-- ==== Sys2Proof/Laws/Link.lean ====
section
/-! SUPPORT. What ON_FRAME can do, once: its four cases, and what it leaves alone. -/

namespace Sys2Proof.Machine

variable {c : Config}

theorem Block.onFrame_bad {cf : List Byte} {s : Block c} (hv : verify c cf = false) :
    s.onFrame cf = s.emit .discardBadCrc := by simp [Block.onFrame, hv, Block.discard]

theorem Block.onFrame_init {cf : List Byte} {s : Block c} (hv : verify c cf = true) (hl : s.ls = .init) :
    s.onFrame cf = s.handshake := by simp [Block.onFrame, hv, hl]

theorem Block.onFrame_read {cf : List Byte} {s : Block c} (hv : verify c cf = true) (hl : s.ls = .read) :
    s.onFrame cf = s.deliver cf := by simp [Block.onFrame, hv, hl]

theorem Block.onFrame_undef {cf : List Byte} {s : Block c} (hv : verify c cf = true)
    (hl : s.ls = .undef2 ∨ s.ls = .undef3) : s.onFrame cf = s.emit .discardBadState := by
  rcases hl with hl | hl <;> simp [Block.onFrame, hv, hl, Block.badState, Block.discard]

/-- ON_FRAME ends in one of the four cases of the dispatch. -/
theorem Block.onFrame_cases (cf : List Byte) (s : Block c) :
    (verify c cf = false ∧ s.onFrame cf = s.emit .discardBadCrc) ∨
    (verify c cf = true ∧ s.ls = .init ∧ s.onFrame cf = s.handshake) ∨
    (verify c cf = true ∧ s.ls = .read ∧ s.onFrame cf = s.deliver cf) ∨
    (verify c cf = true ∧ (s.ls = .undef2 ∨ s.ls = .undef3) ∧ s.onFrame cf = s.emit .discardBadState) := by
  rcases hv : verify c cf
  · exact Or.inl ⟨rfl, Block.onFrame_bad hv⟩
  · rcases hl : s.ls
    · exact Or.inr (Or.inl ⟨rfl, rfl, Block.onFrame_init hv hl⟩)
    · exact Or.inr (Or.inr (Or.inl ⟨rfl, rfl, Block.onFrame_read hv hl⟩))
    · exact Or.inr (Or.inr (Or.inr ⟨rfl, Or.inl rfl, Block.onFrame_undef hv (Or.inl hl)⟩))
    · exact Or.inr (Or.inr (Or.inr ⟨rfl, Or.inr rfl, Block.onFrame_undef hv (Or.inr hl)⟩))

section
variable (cf : List Byte) (s : Block c)

/-- A property that the four outcomes share holds of ON_FRAME. -/
theorem Block.onFrame_of {P : Block c → Prop} (h1 : P (s.emit .discardBadCrc)) (h2 : P s.handshake)
    (h3 : P (s.deliver cf)) (h4 : P (s.emit .discardBadState)) : P (s.onFrame cf) := by
  rcases s.onFrame_cases cf with ⟨_, h⟩ | ⟨_, _, h⟩ | ⟨_, _, h⟩ | ⟨_, _, h⟩ <;> rw [h] <;> assumption

@[simp] theorem Block.onFrame_esc : (s.onFrame cf).esc = s.esc := by
  apply s.onFrame_of cf (P := fun t => t.esc = s.esc) <;> rfl
@[simp] theorem Block.onFrame_wi : (s.onFrame cf).wi = s.wi := by
  apply s.onFrame_of cf (P := fun t => t.wi = s.wi) <;> rfl
@[simp] theorem Block.onFrame_fb : (s.onFrame cf).fb = s.fb := by
  apply s.onFrame_of cf (P := fun t => t.fb = s.fb) <;> rfl
@[simp] theorem Block.onFrame_fbDraw : (s.onFrame cf).fbDraw = s.fbDraw := by
  apply s.onFrame_of cf (P := fun t => t.fbDraw = s.fbDraw) <;> rfl
@[simp] theorem Block.onFrame_pending : (s.onFrame cf).pending = s.pending := by
  apply s.onFrame_of cf (P := fun t => t.pending = s.pending) <;> rfl
@[simp] theorem Block.onFrame_rtcIn : (s.onFrame cf).rtcIn = s.rtcIn := by
  apply s.onFrame_of cf (P := fun t => t.rtcIn = s.rtcIn) <;> rfl

end

end Sys2Proof.Machine
end

