-- ==== Sys2Proof/Laws/Deframer.lean ====
section
/-! SUPPORT. What APPEND, an operation and a step can do, once each. -/

namespace Sys2Proof.Machine

variable {c : Config}

/-- The state after the write of an append, before the completion check. -/
abbrev Block.stored (s : Block c) (b : Byte) : Block c := (s.memWrite s.wi b).setWi (s.wi + 1)

/-- APPEND below the last index. -/
theorem Block.append_partial {s : Block c} (b : Byte) (h : s.wi + 1 < c.frameLen) :
    s.append b = .next (s.stored b) := by
  have h1 : s.wi < c.frameLen := by omega
  have h2 : ¬ s.wi + 1 = c.frameLen := by omega
  simp [Block.append, h1, h2]

/-- APPEND at the last index: the snapshot goes to ON_FRAME. -/
theorem Block.append_complete {s : Block c} (b : Byte) (h : s.wi + 1 = c.frameLen) :
    s.append b = .next (Block.onFrame (s.memWrite s.wi b).snapshot ((s.memWrite s.wi b).setWi 0)) := by
  have h1 : s.wi < c.frameLen := by omega
  simp only [Block.append, if_pos h1]
  exact congrArg Host.Outcome.next (if_pos h)

/-- APPEND beyond the buffer. -/
theorem Block.append_fault {s : Block c} (b : Byte) (h : c.frameLen ≤ s.wi) : s.append b = .fault .fbIndex := by
  have h1 : ¬ s.wi < c.frameLen := by omega
  simp [Block.append, h1]

/-- Everything APPEND can do when it answers a next state. -/
theorem Block.append_next {s t : Block c} {b : Byte} (h : s.append b = .next t) :
    (s.wi + 1 < c.frameLen ∧ t = s.stored b) ∨
    (s.wi + 1 = c.frameLen ∧
      t = Block.onFrame (s.memWrite s.wi b).snapshot ((s.memWrite s.wi b).setWi 0)) := by
  rcases Nat.lt_trichotomy (s.wi + 1) c.frameLen with hlt | heq | hgt
  · rw [Block.append_partial b hlt] at h; injection h with h; exact Or.inl ⟨hlt, h.symm⟩
  · rw [Block.append_complete b heq] at h; injection h with h; exact Or.inr ⟨heq, h.symm⟩
  · rw [Block.append_fault b (by omega)] at h; injection h

/-- FEED_LITERAL as an operation of the block. -/
theorem exec_feedLiteral (b : Byte) (s : Block c) :
    exec (.feedLiteral b) ⟨c, s⟩ = State.perform ⟨c, s⟩ fun k => k.beginStep.clearEsc.append b := rfl

/-- FEED_DATA as an operation of the block. -/
theorem exec_feedData (b : Byte) (s : Block c) :
    exec (.feedData b) ⟨c, s⟩ = State.perform ⟨c, s⟩ fun k => k.beginStep.append b := rfl

/-- APPEND inside the buffer always answers a next state. -/
theorem Block.append_performs (s : Block c) (b : Byte) (h : s.wi < c.frameLen) : ∃ t, s.append b = .next t := by
  simp only [Block.append, if_pos h]; exact ⟨_, rfl⟩

/-- FEED_LITERAL from the outcome of its APPEND. -/
theorem exec_feedLiteral_next {s t : Block c} {b : Byte} (h : s.beginStep.clearEsc.append b = .next t) :
    exec (.feedLiteral b) ⟨c, s⟩ = .next ⟨c, t⟩ := by
  rw [exec_feedLiteral]; exact State.perform_next (s := ⟨c, s⟩) h

/-- FEED_DATA from the outcome of its APPEND. -/
theorem exec_feedData_next {s t : Block c} {b : Byte} (h : s.beginStep.append b = .next t) :
    exec (.feedData b) ⟨c, s⟩ = .next ⟨c, t⟩ := by
  rw [exec_feedData]; exact State.perform_next (s := ⟨c, s⟩) h

/-- Everything an operation can do when it answers a next state: the same instance, and one of seven next blocks. -/
theorem exec_next {i : Instr} {s : Block c} {t : State} (h : exec i ⟨c, s⟩ = .next t) : ∃ k : Block c, t = ⟨c, k⟩ ∧
    ((∃ b, i = .feedLiteral b ∧ s.beginStep.clearEsc.append b = .next k) ∨
     (∃ b, i = .feedData b ∧ s.beginStep.append b = .next k) ∨
     (i = .feedEscape ∧ k = s.beginStep.setEsc) ∨
     (i = .feedStart ∧ k = s.beginStep.setWi 0) ∨
     (i = .linkInit ∧ k = s.beginStep.setLs .init) ∨
     (i = .linkRead ∧ k = s.beginStep.setLs .read) ∨
     (i = .reset ∧
       k = (((s.beginStep.clearEsc.setWi 0).fbForget).setLs c.lsReset).setEpoch c.epochReset)) := by
  cases i with
  | feedLiteral b =>
    obtain ⟨k, hk, ht⟩ := State.perform_eq_next ((exec_feedLiteral b s).symm.trans h)
    exact ⟨k, ht, Or.inl ⟨b, rfl, hk⟩⟩
  | feedData b =>
    obtain ⟨k, hk, ht⟩ := State.perform_eq_next ((exec_feedData b s).symm.trans h)
    exact ⟨k, ht, Or.inr (Or.inl ⟨b, rfl, hk⟩)⟩
  | feedEscape => cases h; exact ⟨_, rfl, by simp⟩
  | feedStart => cases h; exact ⟨_, rfl, by simp⟩
  | linkInit => cases h; exact ⟨_, rfl, by simp⟩
  | linkRead => cases h; exact ⟨_, rfl, by simp⟩
  | reset => cases h; exact ⟨_, rfl, by simp⟩
  | reservedKind k d => cases h
  | reservedData k d => cases h

/-- A step with an input offered performs the operation of its word. -/
theorem step_offered {s : Block c} {inp : Input c} {rest : List (Input c)} (h : s.pending = inp :: rest) :
    step ⟨c, s⟩ = exec (decode s.esc inp.txn) ⟨c, s.accept inp rest⟩ := by
  simp [step, State.takeTransaction, h]

/-- A step with nothing offered stops. -/
theorem step_empty {s : Block c} (h : s.pending = []) : step ⟨c, s⟩ = .fault .noTransaction := by
  simp [step, State.takeTransaction, h]

/-- Everything a step can do when it answers a next state: the head of the offered inputs is performed. -/
theorem step_next {s : Block c} {t : State} (h : step ⟨c, s⟩ = .next t) :
    ∃ inp rest, s.pending = inp :: rest ∧ exec (decode s.esc inp.txn) ⟨c, s.accept inp rest⟩ = .next t := by
  rcases hp : s.pending with _ | ⟨inp, rest⟩
  · rw [step_empty hp] at h; cases h
  · exact ⟨inp, rest, rfl, by rw [← step_offered hp, h]⟩

end Sys2Proof.Machine
end

