-- ==== Sys2Proof/Laws/PerInstr.lean ====
section
/-! SUPPORT. Facts about each operation as syntax, one lemma a constructor. -/

namespace Sys2Proof.Laws

/-- The `mask` column of `opcode_table.json`. -/
def RowPattern.mask : Instr → Txn
  | .feedLiteral _ => 0x700
  | .feedEscape => 0x7FF
  | .feedStart => 0x7FF
  | .feedData _ => 0x700
  | .linkInit => 0x7FF
  | .linkRead => 0x7FF
  | .reset => 0x7FF
  | .reservedKind _ _ => 0x400
  | .reservedData _ _ => 0x400

/-- The `match` column of `opcode_table.json`. -/
def RowPattern.pattern : Instr → Txn
  | .feedLiteral _ => 0x000
  | .feedEscape => 0x0FE
  | .feedStart => 0x0FF
  | .feedData _ => 0x000
  | .linkInit => 0x100
  | .linkRead => 0x200
  | .reset => 0x300
  | .reservedKind _ _ => 0x400
  | .reservedData _ _ => 0x000

/-- The word of an operation matches its row of `opcode_table.json`. -/
def RowPattern.Statement (i : Instr) : Prop := encode i &&& RowPattern.mask i = RowPattern.pattern i

theorem RowPattern.feedLiteral (b : Byte) : RowPattern.Statement (.feedLiteral b) := by
  revert b; unfold RowPattern.Statement; decide
theorem RowPattern.feedEscape : RowPattern.Statement .feedEscape := by unfold RowPattern.Statement; decide
theorem RowPattern.feedStart : RowPattern.Statement .feedStart := by unfold RowPattern.Statement; decide
theorem RowPattern.feedData (b : Byte) : RowPattern.Statement (.feedData b) := by
  revert b; unfold RowPattern.Statement; decide
theorem RowPattern.linkInit : RowPattern.Statement .linkInit := by unfold RowPattern.Statement; decide
theorem RowPattern.linkRead : RowPattern.Statement .linkRead := by unfold RowPattern.Statement; decide
theorem RowPattern.reset : RowPattern.Statement .reset := by unfold RowPattern.Statement; decide
theorem RowPattern.reservedKind (k : BitVec 2) (d : Byte) : RowPattern.Statement (.reservedKind k d) := by
  revert d; revert k; unfold RowPattern.Statement; decide
theorem RowPattern.reservedData (k : BitVec 2) (d : Byte) : RowPattern.Statement (.reservedData k d) := by
  revert d; revert k; unfold RowPattern.Statement; decide

end Sys2Proof.Laws
end

