-- ==== Sys2Proof/Laws/Runs.lean ====
section
/-! SUPPORT. Runs: one step more, where a run ends, and everything a longer run can be. -/

namespace Sys2Proof.Machine

@[simp] theorem Run.after_visited (t : State) (ts : List State) : (Run.visited ts).after t = .visited (t :: ts) := rfl
@[simp] theorem Run.after_refused (t : State) (r : Refusal) : (Run.refused r).after t = .refused r := rfl

/-- The refusal mark survives a state put before it, and nothing else makes one. -/
@[simp] theorem Run.after_eq_refused {t : State} {p : Run} {r : Refusal} : p.after t = .refused r ↔ p = .refused r := by
  cases p <;> simp

@[simp] theorem run_zero (s : State) : run 0 s = .visited [] := rfl

/-- A step that answers a next state is visited first. -/
theorem run_next {n : Nat} {s t : State} (h : step s = .next t) : run (n + 1) s = (run n t).after t := by
  simp [run, h]

/-- A run ends at a fault. -/
theorem run_fault {n : Nat} {s : State} {r : Fault} (h : step s = .fault r) : run (n + 1) s = .visited [] := by
  simp [run, h]

/-- A refused step puts the refusal mark on the run. -/
theorem run_refused {n : Nat} {s : State} {r : Refusal} (h : step s = .refused r) : run (n + 1) s = .refused r := by
  simp [run, h]

/-- Everything a run of one step more can be. -/
theorem run_succ_cases (n : Nat) (s : State) :
    (∃ t, step s = .next t ∧ run (n + 1) s = (run n t).after t) ∨
    (∃ r, step s = .fault r ∧ run (n + 1) s = .visited []) ∨
    (∃ r, step s = .refused r ∧ run (n + 1) s = .refused r) := by
  rcases h : step s with t | r | r
  · exact Or.inl ⟨t, rfl, run_next h⟩
  · exact Or.inr (Or.inl ⟨r, rfl, run_fault h⟩)
  · exact Or.inr (Or.inr ⟨r, rfl, run_refused h⟩)

end Sys2Proof.Machine
end

