-- ==== Sys2Proof/Tests/Slice0.lean ====
section
/-! SUPPORT. Tests with expected results from `95_test_vectors.md` and hand calculation from the rules, the smoke tests of the
well-formedness checks, and for each obligation with hypotheses a case that meets them. -/

namespace Sys2Proof.Tests

open Sys2Proof Sys2Proof.Machine

/-! ## What a test looks at -/

/-- The plain content of a record, a field a number. -/
structure Shot.Record where
  occupancy : Bool
  relay : Bool
  fields : List Nat
  time : Nat
  error : Nat
deriving DecidableEq, Repr

/-- The plain content of the block a test compares. -/
structure Shot where
  esc : Bool
  wi : Nat
  ls : LinkState
  epoch : Nat
  act : List (BitVec 3 × Option Nat)
  cmd : List Command
  record : Option Shot.Record
deriving DecidableEq, Repr

def actionShot {c : Config} (a : Action c) : BitVec 3 × Option Nat :=
  (actionCode a, match a with
    | .handshake e => some e.toNat
    | .discardBadCrc | .discardBadState | .frameReady => none)

def recordShot {c : Config} (r : ParsedRecord c) : Shot.Record where
  occupancy := r.occupancy
  relay := r.relay
  fields := [r.voltage.toNat, r.current.toNat, r.phase.toNat, r.temperature.toNat]
  time := r.time.toNat
  error := r.error.toNat

/-- What is left after an operation or a step, if it has a next state. -/
def shot : Result → Option Shot
  | .next t => some
      { esc := t.blk.esc, wi := t.blk.wi, ls := t.blk.ls, epoch := t.blk.epoch.toNat,
        act := t.blk.actOut.map actionShot, cmd := t.blk.cmdOut, record := t.blk.recOut.map recordShot }
  | .fault _ => none
  | .refused _ => none

/-- The byte at an index of the frame buffer after an operation or a step. -/
def byteAfter (i : Nat) : Result → Option Byte
  | .next t => t.blk.fb.read i
  | .fault _ => none
  | .refused _ => none

/-- REFCFG with both byte orders `BE` (V-PAR-6). -/
def beConfig : Config := { Config.ref with fieldOrder := .be, crcOrder := .be }

/-- REFCFG with `LS_RESET = UNDEF2` (P4). -/
def undefConfig : Config := { Config.ref with lsReset := .undef2 }

/-- The frame buffer holding the given bytes from index 0. -/
def buffer (bs : List Byte) : Memory := bs.zipIdx.map fun p => (p.2, p.1)

/-- A block between steps: `ESC`, the bytes collected, `LS`, `EPOCH`. -/
def block (c : Config) (esc : Bool) (bs : List Byte) (ls : LinkState) (epoch : Nat) : Block c :=
  { Block.reset c with esc := esc, wi := bs.length, fb := buffer bs, ls := ls, epoch := BitVec.ofNat _ epoch }

/-- A state with the given `ESC`, collected bytes, `LS` and `EPOCH`, in REFCFG, one transaction offered. -/
def offered (esc : Bool) (bs : List Byte) (ls : LinkState) (epoch : Nat) (w : Txn) (rtc : Nat) : State :=
  ⟨Config.ref, (block Config.ref esc bs ls epoch).offer [⟨w, BitVec.ofNat _ rtc⟩]⟩

/-- Payload B of `95_test_vectors.md`. -/
def payloadB : List Byte := [0x03, 0x34, 0x12, 0x78, 0x56, 0x10, 0x00, 0xFA, 0x00, 0x05, 0x00, 0x00, 0x00, 0xAA, 0x00]

/-- Payload C of `95_test_vectors.md`. -/
def payloadC : List Byte := [0x01, 0xFF, 0x00, 0xFE, 0x01, 0x00, 0x00, 0x19, 0x00, 0x3C, 0x00, 0x00, 0x00, 0x00, 0x07]

/-- Payload D of `95_test_vectors.md`. -/
def payloadD : List Byte := [0x02, 0x00, 0x01, 0x00, 0x02, 0x00, 0x03, 0x00, 0x04, 0xF0, 0xFF, 0xFF, 0xFF, 0x55, 0x00]

/-- Zero bytes. -/
def zeros (n : Nat) : List Byte := List.replicate n 0

/-! ## Decoding: one word of each row, written out from `30_encoding.md` R60 to R63 -/

theorem test_decode_feedLiteral : decode true 0b000_1111_1111 = .feedLiteral 0xFF := by decide
theorem test_decode_feedEscape : decode false 0b000_1111_1110 = .feedEscape := by decide
theorem test_decode_feedStart : decode false 0b000_1111_1111 = .feedStart := by decide
theorem test_decode_feedData : decode false 0b000_1111_1101 = .feedData 0xFD := by decide
theorem test_decode_linkInit : decode true 0b001_0000_0000 = .linkInit := by decide
theorem test_decode_linkRead : decode false 0b010_0000_0000 = .linkRead := by decide
theorem test_decode_reset : decode true 0b011_0000_0000 = .reset := by decide
theorem test_decode_reservedKind : decode false 0b110_1010_0101 = .reservedKind 0b10 0xA5 := by decide
theorem test_decode_reservedData : decode true 0b010_0000_0001 = .reservedData 0b10 0x01 := by decide
theorem test_decode_too_wide : (decodeNat false 0x800).toOption = none := by decide
theorem test_decodeTableWord : decodeTableWord 16 0x300 = some .reset ∧ decodeTableWord 16 0xF300 = none := by decide

/-! ## Well-formedness: an ill-formed term for each check -/

theorem test_wf_feedData : Instr.wf (.feedData 0xFD) = true ∧ Instr.wf (.feedData 0xFE) = false := by decide
theorem test_wf_reservedData_kind : Instr.wf (.reservedData 0 1) = false ∧ Instr.wf (.reservedData 1 1) = true := by decide
theorem test_wf_reservedData_data : Instr.wf (.reservedData 3 0) = false := by decide
theorem test_escOk : Instr.escOk false (.feedLiteral 0) = false ∧ Instr.escOk true .feedEscape = false ∧
    Instr.escOk true .feedStart = false ∧ Instr.escOk true (.feedData 0) = false := by decide
theorem test_config_wf : Config.ref.wf ∧ beConfig.wf ∧ undefConfig.wf := by decide
/-- `00_scope.md` R5: a frame of two bytes. -/
theorem test_config_frame_too_short : ¬ Config.wf { Config.ref with frameLen := 2 } := by decide
/-- `00_scope.md` R6 (a): a field reaching into the CRC. -/
theorem test_layout_outside : ¬ Layout.wf 17 32 { Layout.ref with error := ⟨15, 1⟩ } := by decide
/-- `00_scope.md` R6 (b): two fields sharing byte 2. -/
theorem test_layout_overlap : ¬ Layout.wf 17 32 { Layout.ref with voltage := ⟨2, 2⟩ } := by decide
/-- `00_scope.md` R6 (c): flags of two bytes. -/
theorem test_layout_flags : ¬ Layout.wf 18 32 { Layout.ref with flags := ⟨14, 2⟩, error := ⟨0, 1⟩ } := by decide
/-- `00_scope.md` R6 (d): a width of 0. -/
theorem test_layout_width_zero : ¬ Layout.wf 17 32 { Layout.ref with error := ⟨14, 0⟩ } := by decide
/-- `00_scope.md` R6 (d): a width of 5. -/
theorem test_layout_width_five : ¬ Layout.wf 21 32 { Layout.ref with error := ⟨14, 5⟩ } := by decide
/-- `00_scope.md` R6 (e): a timestamp wider than the RTC. -/
theorem test_layout_timestamp : ¬ Layout.wf 17 24 Layout.ref := by decide
/-- `00_scope.md` R8: the two flag bits are the same. -/
theorem test_config_flag_bits : ¬ Config.wf { Config.ref with relayBit := 0 } := by decide
theorem test_memory_wf : ¬ Memory.wf [(1, 0), (0, 0)] ∧ ¬ Memory.wf [(1, 0), (1, 1)] ∧ Memory.wf [(0, 9), (1, 0)] := by decide

/-! ## The CRC (V-CRC) -/

theorem test_crc_one_byte : crc16 [] = 0x0000 ∧ crc16 [0x01] = 0x1021 ∧ crc16 [0xFF] = 0x1EF0 ∧ crc16 [0x80] = 0x9188 := by decide
theorem test_crc_123456789 : crc16 [0x31, 0x32, 0x33, 0x34, 0x35, 0x36, 0x37, 0x38, 0x39] = 0x31C3 := by decide
theorem test_crc_trace : crcStep 0xD789 0x35 = 0x546C := by decide
theorem test_crc_payloads : crc16 payloadB = 0x5F1D ∧ crc16 payloadC = 0xC493 ∧ crc16 payloadD = 0xFA12 := by decide
theorem test_verify_le : verify Config.ref (payloadB ++ [0x1D, 0x5F]) = true ∧
    verify Config.ref (payloadB ++ [0x5F, 0x1D]) = false ∧
    verify Config.ref (payloadB.set 3 0x79 ++ [0x1D, 0x5F]) = false := by decide
theorem test_verify_be : verify beConfig (payloadB ++ [0x5F, 0x1D]) = true ∧
    verify beConfig ((List.range 15).map (fun i => BitVec.ofNat 8 (i + 1)) ++ [0x51, 0x3D]) = true := by decide
theorem test_verify_zero_residue_needs_be : crc16 (payloadB ++ [0x1D, 0x5F]) = 0x0328 := by decide
theorem test_crc_running : crcRunAppend Config.ref 14 0x1234 0 = crcStep 0x1234 0 ∧ crcRunAppend Config.ref 15 0x1234 0x77 = 0x1234 := by decide

/-! ## The de-framer (V-DF), one step each -/

/-- V-DF-1. -/
theorem test_feedData : shot (step (offered false [] .init 0 0x041 9)) = some ⟨false, 1, .init, 0, [], [], none⟩ ∧
    byteAfter 0 (step (offered false [] .init 0 0x041 9)) = some 0x41 := by decide
/-- V-DF-2. -/
theorem test_feedEscape : shot (step (offered false (zeros 5) .read 7 0x0FE 9)) = some ⟨true, 5, .read, 7, [], [], none⟩ := by decide
/-- V-DF-3: an escaped start sentinel is payload. -/
theorem test_feedLiteral : shot (step (offered true (zeros 5) .read 7 0x0FF 9)) = some ⟨false, 6, .read, 7, [], [], none⟩ ∧
    byteAfter 5 (step (offered true (zeros 5) .read 7 0x0FF 9)) = some 0xFF := by decide
/-- V-DF-11: at the last index the start sentinel still discards. -/
theorem test_feedStart : shot (step (offered false (zeros 16) .read 7 0x0FF 9)) = some ⟨false, 0, .read, 7, [], [], none⟩ ∧
    byteAfter 16 (step (offered false (zeros 16) .read 7 0x0FF 9)) = none := by decide
/-- V-DF-9 and V-FSM-4: a literal completes the frame, whose CRC is bad. -/
theorem test_feedLiteral_completes :
    shot (step (offered true (zeros 16) .read 1000 0x0FF 9)) = some ⟨false, 0, .read, 1000, [(0b001, none)], [], none⟩ ∧
    byteAfter 16 (step (offered true (zeros 16) .read 1000 0x0FF 9)) = some 0xFF := by decide

/-! ## The link state machine and the parser (V-FSM, V-PAR), one step each -/

/-- V-FSM-3 and V-PAR-1. -/
theorem test_deliver : shot (step (offered false (payloadB ++ [0x1D]) .read 1000 0x05F 77)) =
    some ⟨false, 0, .read, 1000, [(0b100, none)], [], some ⟨true, true, [0x1234, 0x5678, 0x0010, 0x00FA], 1005, 0⟩⟩ := by decide
/-- V-FSM-10: the epoch is the RTC value of the step. -/
theorem test_handshake :
    shot (.next ⟨Config.ref, Block.onFrame (zeros 17) { block Config.ref false [] .init 7 with rtcIn := 0xFFFFFFFF }⟩) =
      some ⟨false, 0, .read, 0xFFFFFFFF, [(0b011, some 0xFFFFFFFF)], [.syncTime 0, .enableStreaming], none⟩ := by decide
/-- V-FSM-5. -/
theorem test_bad_state : shot (.next ⟨Config.ref, Block.onFrame (zeros 17) (block Config.ref false [] .undef2 0)⟩) =
    some ⟨false, 0, .undef2, 0, [(0b010, none)], [], none⟩ := by decide
/-- V-FSM-6: the CRC is checked first. -/
theorem test_bad_crc_first :
    shot (.next ⟨Config.ref, Block.onFrame (zeros 16 ++ [0x80]) (block Config.ref false [] .undef3 0)⟩) =
      some ⟨false, 0, .undef3, 0, [(0b001, none)], [], none⟩ := by decide
/-- V-FSM-7. -/
theorem test_linkInit : shot (step (offered false (zeros 3) .read 1000 0x100 9)) = some ⟨false, 3, .init, 1000, [], [], none⟩ := by decide
/-- V-FSM-9. -/
theorem test_linkRead : shot (step (offered true (zeros 3) .undef3 5 0x200 9)) = some ⟨true, 3, .read, 5, [], [], none⟩ := by decide
/-- `70_reset_and_hazards.md` R220, with `LS_RESET = UNDEF2` (P4). -/
theorem test_reset : shot (step ⟨undefConfig, (block undefConfig true (zeros 3) .read 1000).offer [⟨0x300, 9⟩]⟩) =
    some ⟨false, 0, .undef2, 0, [], [], none⟩ := by decide
/-- V-PAR-2. -/
theorem test_parse_c : recordShot (parse Config.ref (payloadC ++ [0x93, 0xC4]) 2000) =
    ⟨true, false, [0x00FF, 0x01FE, 0x0000, 0x0019], 2060, 0x07⟩ := by decide
/-- V-PAR-3: the time wraps. -/
theorem test_parse_d : recordShot (parse Config.ref (payloadD ++ [0x12, 0xFA]) 0x10) =
    ⟨false, true, [0x0100, 0x0200, 0x0300, 0x0400], 0, 0x00⟩ := by decide
/-- V-PAR-6. -/
theorem test_parse_be : recordShot (parse beConfig (payloadB ++ [0x5F, 0x1D]) 1000) =
    ⟨true, true, [0x3412, 0x7856, 0x1000, 0xFA00], 83887080, 0x00⟩ := by decide
/-- V-PAR-5: other flag bits are ignored. -/
theorem test_parse_flags : (recordShot (parse Config.ref (payloadB.set 0 0xFC ++ [0x4A, 0xAD]) 0)).occupancy = false ∧
    verify Config.ref (payloadB.set 0 0xFC ++ [0x4A, 0xAD]) = true := by decide

/-! ## The sender's side, the reference command frame, the host's entry points -/

/-- V-DF-12: the stuffed C frame. -/
theorem test_stuff : stuff (signedFrame Config.ref payloadC) =
    [0xFF, 0x01, 0xFE, 0xFF, 0x00, 0xFE, 0xFE, 0x01, 0x00, 0x00, 0x19, 0x00, 0x3C, 0x00, 0x00, 0x00, 0x00, 0x07, 0x93, 0xC4] := by
  decide
/-- `30_encoding.md` R74: RTC is no transaction. -/
theorem test_assemble : (assemble Config.ref 0 [.reset, .rtc 1000, .linkInit, .bytes [0x11], .feed 0xFE, .linkRead]).map
    (fun inp => (inp.txn, inp.rtc.toNat)) = [(0x300, 0), (0x100, 1000), (0x011, 1000), (0x0FE, 1000), (0x200, 1000)] := by decide
/-- V-CMD-1 to V-CMD-3. -/
theorem test_command_frame : commandFrame 0x1 0x00 = [0x10, 0x00, 0xEF] ∧ commandFrame 0xA 0x85 = [0xA0, 0x85, 0xDA] ∧
    commandFrame 0x0 0x00 = [0x00, 0x00, 0xFF] := by decide
theorem test_withFetchWord : shot (step (State.reset.withFetchWord 16 0x200)) = some ⟨false, 0, .read, 0, [], [], none⟩ := by decide
theorem test_withFetchWord_reserved : shot (step (State.reset.withFetchWord 16 0x400)) = none := by decide

/-! ## Witnesses: the hypotheses of each obligation are met together -/

/-- The block of most witnesses: 16 bytes collected, one transaction offered, in REFCFG. -/
def full (ls : LinkState) (w : Txn) : Block Config.ref := (block Config.ref false (zeros 16) ls 7).offer [⟨w, 9⟩]

theorem witness_DecodeUndoesEncode :
    (Instr.feedLiteral 0xFF).wf ∧ (Instr.feedLiteral 0xFF).escOk true ∧ (Instr.feedData 0xFD).wf ∧ (Instr.feedData 0xFD).escOk false ∧
    Instr.feedEscape.wf ∧ Instr.feedEscape.escOk false ∧ Instr.feedStart.wf ∧ Instr.feedStart.escOk false ∧
    Instr.linkInit.wf ∧ Instr.linkRead.wf ∧ Instr.reset.wf ∧ (Instr.reservedKind 3 0).wf ∧ (Instr.reservedData 3 1).wf := by decide
theorem witness_FeedByteClasses : (0xFD : Byte).toNat ≤ 0xFD ∧ ¬ (0xFE : Byte).toNat ≤ 0xFD ∧ (0xFE : Byte) ≠ 0xFF := by decide
theorem witness_ExactlyReservedWordsAreRefused : (full .read 0x400).pending = [⟨0x400, 9⟩] ∧ 4 ≤ (txnKind 0x400).toNat ∧
    1 ≤ (txnKind 0x101).toNat ∧ txnData 0x101 ≠ 0 ∧ txnData 0x100 = 0 ∧ txnKind 0x0FF = 0 ∧ (txnKind 0x3FF).toNat = 3 := by decide
theorem witness_StepPerformsTheOfferedOperation : (full .read 0x041).pending = ⟨0x041, 9⟩ :: [] := rfl
theorem witness_NothingOfferedStops : State.reset.blk.pending = [] := rfl

theorem witness_inv : (full .read 0x000).Inv where
  cfg := by decide
  wi := by decide
  fbCanonical := by decide
  fbInside := by decide
  fbWritten := by decide
  ls := by decide

/-- The second of three offered words is reserved: a run of one step has no mark, and one of two or of three steps has it,
though the third word is a good one. -/
theorem witness_RefusalMarkIsKept :
    ((full .read 0x041).offer [⟨0x041, 9⟩, ⟨0x400, 9⟩, ⟨0x042, 9⟩]).Inv ∧
    (∃ states, run 1 ⟨Config.ref, (full .read 0x041).offer [⟨0x041, 9⟩, ⟨0x400, 9⟩, ⟨0x042, 9⟩]⟩ = .visited states) ∧
    run 2 ⟨Config.ref, (full .read 0x041).offer [⟨0x041, 9⟩, ⟨0x400, 9⟩, ⟨0x042, 9⟩]⟩ = .refused .reservedTxn ∧
    run 3 ⟨Config.ref, (full .read 0x041).offer [⟨0x041, 9⟩, ⟨0x400, 9⟩, ⟨0x042, 9⟩]⟩ = .refused .reservedTxn ∧
    ¬ reservedWord 0x041 ∧ reservedWord 0x400 :=
  ⟨⟨by decide, by decide, by decide, by decide, by decide, by decide⟩, ⟨_, rfl⟩, rfl, rfl, by decide, by decide⟩

theorem witness_EveryOfferedTransactionIsPerformedOrReserved :
    State.Inv ⟨Config.ref, full .read 0x000⟩ ∧ (full .read 0x000).pending ≠ [] := ⟨witness_inv, by decide⟩
theorem witness_ConfigurationNeverChanges : ∃ t, step ⟨Config.ref, full .read 0x000⟩ = .next t := ⟨_, rfl⟩
theorem witness_FeedEscapeSetsEsc :
    (full .read 0x0FE).pending = [⟨0x0FE, 9⟩] ∧ (full .read 0x0FE).esc = false := ⟨rfl, rfl⟩
theorem witness_FeedStartDiscardsThePartialFrame : (Block.reset Config.ref).wi = 0 ∧
    (full .read 0x0FF).pending = [⟨0x0FF, 9⟩] ∧ (full .read 0x0FF).esc = false := ⟨rfl, rfl, rfl⟩
theorem witness_FeedDataAppends : (block Config.ref false (zeros 15) .read 7).wi + 1 < Config.ref.frameLen ∧
    (block Config.ref false (zeros 16) .read 7).wi + 1 = Config.ref.frameLen := by decide
theorem witness_FeedLiteralAppends : (block Config.ref true (zeros 15) .read 7).wi + 1 < Config.ref.frameLen ∧
    (block Config.ref true (zeros 16) .read 7).wi + 1 = Config.ref.frameLen := by decide
theorem witness_AppendOutsideTheBufferFaults : appendedByte (.feedData 5) = some 5 ∧ appendedByte (.feedLiteral 5) = some 5 ∧
    Config.ref.frameLen ≤ (block Config.ref false (zeros 17) .read 7).wi ∧
    ¬ Config.ref.frameLen ≤ (block Config.ref false (zeros 16) .read 7).wi := by decide
theorem witness_AppendWritesOnlyItsIndex :
    (∃ t, exec (.feedData 5) ⟨Config.ref, full .read 0⟩ = .next ⟨Config.ref, t⟩ ∧ (full .read 0).wi + 1 = Config.ref.frameLen) ∧
    (∃ t, exec (.feedLiteral 5) ⟨Config.ref, block Config.ref true (zeros 15) .read 7⟩ = .next ⟨Config.ref, t⟩) :=
  ⟨⟨_, rfl, rfl⟩, ⟨_, rfl⟩⟩
theorem witness_OtherOperationsStoreNothing : ∀ i ∈ [Instr.feedEscape, .feedStart, .linkInit, .linkRead],
    ∃ t, exec i ⟨Config.ref, full .read 0⟩ = .next ⟨Config.ref, t⟩ := by
  intro i hi
  simp only [List.mem_cons, List.not_mem_nil, or_false] at hi
  rcases hi with rfl | rfl | rfl | rfl <;> exact ⟨_, rfl⟩
theorem witness_FeedIsAlwaysPerformed : (full .read 0x0FE).wi < Config.ref.frameLen ∧
    (full .read 0x0FE).pending = [⟨0x0FE, 9⟩] ∧ (0x0FE : Txn) = feedWord 0xFE := by decide
theorem witness_ActionsComeOnlyAtCompletion : ∃ t, step ⟨Config.ref, full .read 0x000⟩ = .next ⟨Config.ref, t⟩ := ⟨_, rfl⟩
theorem witness_OutputsAreOfOneKind : ∃ t, step ⟨Config.ref, full .init 0x000⟩ = .next t := ⟨_, rfl⟩

/-- The units of a witness: sixteen plain bytes of the largest plain value and an escaped start sentinel. -/
def units : List PayloadUnit := List.replicate 16 (.plain 0xFD) ++ [.escaped 0xFF]

/-- A stream byte as an input with `rtc_in = 9`. -/
def input (b : Byte) : Input Config.ref := ⟨feedWord b, 9⟩

/-- Stream bytes as inputs. -/
def inputs (bs : List Byte) : List (Input Config.ref) := bs.map input

theorem witness_UnitsCompleteOneFrame :
    Config.ref.wf ∧ (Block.reset Config.ref).wi = 0 ∧ (Block.reset Config.ref).esc = false ∧
    units.length = Config.ref.frameLen ∧ (∀ u ∈ units, u.legal) ∧
    ((Block.reset Config.ref).offer (inputs (List.replicate 16 0xFD ++ [0xFE, 0xFF]))).pending =
      inputs (List.replicate 16 0xFD ++ [0xFE]) ++ input 0xFF :: [] ∧
    (inputs (List.replicate 16 0xFD ++ [0xFE]) ++ [input 0xFF]).map Input.txn =
      (units.flatMap PayloadUnit.bytes).map feedWord := by
  refine ⟨by decide, rfl, rfl, rfl, ?_, rfl, rfl⟩
  intro u hu
  rcases List.mem_append.1 hu with h | h
  · rw [(List.mem_replicate.1 h).2]; decide
  · rw [List.mem_singleton.1 h]; trivial
theorem witness_StuffedFrameRoundTrips :
    Config.ref.wf ∧ (full .read 0).esc = false ∧ (zeros 17).length = Config.ref.frameLen ∧
    ((full .read 0).offer (inputs (0xFF :: zeros 17))).pending = inputs (0xFF :: zeros 16) ++ input 0 :: [] ∧
    (inputs (0xFF :: zeros 16) ++ [input 0]).map Input.txn = (stuff (zeros 17)).map feedWord := by decide
theorem witness_ResyncDeliversTheNextFrame :
    (Config.ref.wf ∧ (full .read 0).esc = false ∧ (zeros 17).length = Config.ref.frameLen ∧
      (inputs (0xFF :: zeros 16) ++ [input 0]).map Input.txn =
        feedWord 0xFF :: ((zeros 17).flatMap fun b => (stuffUnit b).bytes).map feedWord ∧
      (inputs (0xFF :: 0xFF :: zeros 16) ++ [input 0]).map Input.txn =
        feedWord 0xFF :: (stuff (zeros 17)).map feedWord) ∧
    (block Config.ref true (zeros 15) .read 7).wi + 1 < Config.ref.frameLen ∧
    ((block Config.ref true (zeros 15) .read 7).offer (inputs [0xFF])).pending = [input 0xFF] := by decide
theorem witness_LeftoverBytesAreNeverObserved :
    (block Config.ref false [5] .read 7).wi < Config.ref.frameLen ∧ buffer [5, 1] ≠ buffer [5, 9] ∧
    (∀ a < (block Config.ref false [5] .read 7).wi,
      Block.fbByte { block Config.ref false [5] .read 7 with fb := buffer [5, 1], fbDraw := 3 } a =
        (block Config.ref false [5] .read 7).fbByte a) := by decide

theorem witness_CrcIsLinear : [(0x12 : Byte), 0x34].length = [(0xFF : Byte), 0x00].length := rfl
theorem witness_OneChangedByteIsDetected : Config.ref.wf ∧ (payloadB ++ [0x1D, 0x5F]).length = Config.ref.frameLen ∧
    verify Config.ref (payloadB ++ [0x1D, 0x5F]) = true ∧ 16 < Config.ref.frameLen ∧
    (0x5E : Byte) ≠ frameByte (payloadB ++ [0x1D, 0x5F]) 16 ∧ (0x02 : Byte) ≠ frameByte (payloadB ++ [0x1D, 0x5F]) 0 := by decide
theorem witness_ValidBigEndianFrameHasZeroResidue : beConfig.wf ∧ beConfig.crcOrder = .be ∧
    (payloadB ++ [0x5F, 0x1D]).length = beConfig.frameLen ∧ crc16 (payloadB ++ [0x5F, 0x1D]) = 0 := by decide
theorem witness_RunningCrcIsTheFrameCrc : (Block.reset Config.ref).wi = 0 ∧
    (block Config.ref false (payloadB.take 14) .read 7).RunningCrcOk (crc16 (payloadB.take 14)) ∧
    (∃ t, exec (.feedData 0) ⟨Config.ref, block Config.ref false (payloadB.take 14) .read 7⟩ = .next ⟨Config.ref, t⟩) ∧
    (block Config.ref false (payloadB ++ [0x1D]) .read 7).RunningCrcOk (crc16 payloadB) ∧
    (block Config.ref false (payloadB ++ [0x1D]) .read 7).wi + 1 = Config.ref.frameLen :=
  ⟨rfl, by decide, ⟨_, rfl⟩, by decide, rfl⟩
theorem witness_SignedFrameVerifies : payloadB.length = coverLen Config.ref ∧ payloadB.length = coverLen beConfig := by decide
theorem witness_ZeroFrameIsValid : beConfig.wf := by decide

theorem witness_BadCrcDiscardsTheFrame : appendedByte (.feedData 0x80) = some 0x80 ∧
    Instr.escOk (full .undef3 0).esc (.feedData 0x80) = true ∧ (full .undef3 0).wi + 1 = Config.ref.frameLen ∧
    verify Config.ref ((full .undef3 0).frameWith 0x80) = false := by decide
theorem witness_HandshakeTakesTheEpoch : appendedByte (.feedData 0x00) = some 0x00 ∧
    Instr.escOk (full .init 0).esc (.feedData 0x00) = true ∧ (full .init 0).wi + 1 = Config.ref.frameLen ∧
    verify Config.ref ((full .init 0).frameWith 0x00) = true ∧ (full .init 0).ls = .init := by decide
theorem witness_DataFrameIsDelivered : appendedByte (.feedLiteral 0x00) = some 0x00 ∧
    Instr.escOk (block Config.ref true (zeros 16) .read 7).esc (.feedLiteral 0x00) = true ∧
    (block Config.ref true (zeros 16) .read 7).wi + 1 = Config.ref.frameLen ∧
    verify Config.ref ((block Config.ref true (zeros 16) .read 7).frameWith 0x00) = true ∧
    (block Config.ref true (zeros 16) .read 7).ls = .read := by decide
theorem witness_UnknownStateDiscardsTheFrame : ∀ ls ∈ [LinkState.undef2, LinkState.undef3],
    appendedByte (.feedData 0x00) = some 0x00 ∧ Instr.escOk (full ls 0).esc (.feedData 0x00) = true ∧
    (full ls 0).wi + 1 = Config.ref.frameLen ∧ verify Config.ref ((full ls 0).frameWith 0x00) = true ∧
    ((full ls 0).ls = .undef2 ∨ (full ls 0).ls = .undef3) := by decide
theorem witness_reserved_data : (0x01 : Byte) ≠ 0 ∧ decode true (mkTxn 0b001 0x01) = .reservedData 0b01 0x01 ∧
    decode true (mkTxn 0b010 0xFF) = .reservedData 0b10 0xFF ∧ decode false (mkTxn 0b011 0x01) = .reservedData 0b11 0x01 := by decide
theorem witness_LinkStateTransitions :
    (∀ ls, (∃ t, exec (.feedData 0x00) ⟨Config.ref, full ls 0⟩ = .next ⟨Config.ref, t⟩) ∧ (full ls 0).ls = ls ∧
      completes (.feedData 0x00) (full ls 0) = true ∧ verify Config.ref ((full ls 0).frameWith 0x00) = true) ∧
    (∃ t, exec (.feedData 0x80) ⟨Config.ref, full .read 0⟩ = .next ⟨Config.ref, t⟩ ∧
      verify Config.ref ((full .read 0).frameWith 0x80) = false) ∧
    (∃ t, exec .reset ⟨Config.ref, full .read 0⟩ = .next ⟨Config.ref, t⟩ ∧ completes .reset (full .read 0) = false) :=
  ⟨fun ls => by cases ls <;> exact ⟨⟨_, rfl⟩, rfl, rfl, by decide⟩, ⟨_, rfl, by decide⟩, ⟨_, rfl, rfl⟩⟩
theorem witness_UnknownStateOnlyByReset :
    (∃ t : Block undefConfig, step ⟨undefConfig, (block undefConfig false [] .read 7).offer [⟨0x300, 9⟩]⟩ = .next ⟨undefConfig, t⟩ ∧
      t.ls = .undef2) ∧
    (∃ t : Block Config.ref, step ⟨Config.ref, full .undef3 0x0FE⟩ = .next ⟨Config.ref, t⟩ ∧ t.ls = .undef3) :=
  ⟨⟨_, rfl, rfl⟩, ⟨_, rfl, rfl⟩⟩
theorem witness_EpochWrittenOnlyByHandshakeOrReset :
    (∃ t, exec .reset ⟨Config.ref, full .read 0⟩ = .next ⟨Config.ref, t⟩) ∧
    (∃ t, exec (.feedData 0x00) ⟨Config.ref, full .init 0⟩ = .next ⟨Config.ref, t⟩ ∧ t.shookHands = true) ∧
    (∃ t, exec .linkRead ⟨Config.ref, full .init 0⟩ = .next ⟨Config.ref, t⟩ ∧ t.shookHands = false) :=
  ⟨⟨_, rfl⟩, ⟨_, rfl, rfl⟩, ⟨_, rfl, rfl⟩⟩
/-- The first byte completes the frame that shakes hands; the 41st word, RESET, is past the run. -/
theorem witness_OneHandshakePerResetCycle :
    (∀ inp ∈ ((full .init 0).offer (inputs (zeros 40) ++ [⟨0x300, 9⟩])).pending.take 40, inp.txn ≠ 0x100 ∧ inp.txn ≠ 0x300) ∧
    ∃ t : Block Config.ref, run 1 ⟨Config.ref, (full .init 0).offer (inputs (zeros 40) ++ [⟨0x300, 9⟩])⟩ =
      .visited [⟨Config.ref, t⟩] ∧ t.shookHands = true :=
  ⟨by decide, _, rfl, by decide⟩
theorem witness_RtcIsReadOnlyByTheHandshake :
    ∃ t, exec (.feedData 0x00) ⟨Config.ref, full .read 0⟩ = .next ⟨Config.ref, t⟩ ∧ t.shookHands = false := ⟨_, rfl, rfl⟩
theorem witness_LinkReadPreemptsTheHandshake :
    (full .init 0).ls = .init ∧
    (∃ t, exec .linkRead ⟨Config.ref, (full .init 0).offer (inputs (zeros 18) ++ [⟨0x300, 9⟩])⟩ = .next ⟨Config.ref, t⟩ ∧
      (∀ inp ∈ t.pending.take 18, inp.txn ≠ 0x100 ∧ inp.txn ≠ 0x300) ∧
      (∃ states, run 2 ⟨Config.ref, t⟩ = .visited states) ∧
      completes (decode t.esc 0x000) t = true ∧
      verify Config.ref (t.frameWith 0x00) = true ∧ verify Config.ref (t.frameWith 0x80) = false) ∧
    Config.ref.wf ∧ (full .init 0).esc = false ∧ payloadB.length = coverLen Config.ref :=
  ⟨rfl, ⟨_, rfl, by decide, ⟨_, rfl⟩, rfl, by decide, by decide⟩, by decide, rfl, rfl⟩
/-- A layout out of the order of R66 is admitted (log entry 19). -/
theorem test_layout_order_is_free :
    Layout.wf 17 32 { Layout.ref with voltage := ⟨3, 2⟩, current := ⟨1, 2⟩ } := by decide
theorem witness_FieldValueIsAssembledInOrder : (3 : Nat) < 4 ∧
    fieldValue .le [0xF0, 0xFF, 0x01, 0x02] 0 4 = 0x0201FFF0 ∧ fieldValue .be [0xF0, 0xFF, 0x01, 0x02] 0 4 = 0xF0FF0102 := by decide
theorem witness_StoredCrcIsTheLastTwoBytes : Config.ref.crcOrder = .le ∧ beConfig.crcOrder = .be := by decide
theorem witness_TimeWrapsAtTheRtcWidth : (32 : Nat) ≤ 32 ∧ (time 32 (0xFFFFFFF0 : BitVec 32) 0x10).toNat = 0 := by decide
theorem witness_RecordDependsOnCarriedFieldsOnly :
    (∀ f ∈ [Layout.ref.voltage, Layout.ref.current, Layout.ref.phase, Layout.ref.temperature, Layout.ref.timestamp, Layout.ref.error],
      ∀ k < f.width, frameByte payloadB (f.offset + k) = frameByte ((payloadB.set 13 0x55).set 0 0xFF) (f.offset + k)) ∧
    (∀ n : Fin 8, n = Config.ref.occBit ∨ n = Config.ref.relayBit →
      (frameByte payloadB 0).getLsbD n.val = (frameByte ((payloadB.set 13 0x55).set 0 0xFF) 0).getLsbD n.val) := by decide
theorem witness_StepKeepsTheInvariant :
    State.Inv ⟨Config.ref, full .read 0x000⟩ ∧ ∃ t, step ⟨Config.ref, full .read 0x000⟩ = .next t := ⟨witness_inv, ⟨_, rfl⟩⟩
theorem witness_ResetMeetsTheInvariant : undefConfig.wf := by decide
theorem witness_SignedFrameReachesTheDriver : Config.ref.wf ∧ (full .init 0).esc = false ∧ (full .init 0).ls = .init ∧
    (full .read 0).ls = .read ∧ payloadC.length = coverLen Config.ref := by decide

end Sys2Proof.Tests
end

