-- ==== Sys2Proof/Proofs/Scope.lean ====
section
/-! PROOFS. What a step does with the offered transaction (`00_scope.md` R16). -/

namespace Sys2Proof.Machine

variable {c : Config}

/-- Only an append beyond the buffer faults, and only the two reserved rows are refused. -/
theorem exec_performs_or_reserved (i : Instr) {s : Block c} (hwi : s.wi < c.frameLen) :
    (∃ t, exec i ⟨c, s⟩ = .next t) ∨ exec i ⟨c, s⟩ = .refused .reservedTxn := by
  cases i with
  | feedLiteral b =>
    obtain ⟨k, hk⟩ := Block.append_performs s.beginStep.clearEsc b (by simpa using hwi)
    exact Or.inl ⟨_, exec_feedLiteral_next hk⟩
  | feedData b =>
    obtain ⟨k, hk⟩ := Block.append_performs s.beginStep b (by simpa using hwi)
    exact Or.inl ⟨_, exec_feedData_next hk⟩
  | feedEscape | feedStart | linkInit | linkRead | reset => exact Or.inl ⟨_, rfl⟩
  | reservedKind k d | reservedData k d => exact Or.inr rfl

/-- Settles O10: an input is offered, so the step performs its operation, and `WI` of the invariant lies inside the
buffer, so no append faults. -/
theorem everyOfferedTransactionIsPerformedOrReserved :
    Obligations.EveryOfferedTransactionIsPerformedOrReserved := by
  rintro ⟨c, s⟩ hinv hoffered
  obtain ⟨inp, rest, hpending⟩ := List.exists_cons_of_ne_nil hoffered
  rw [step_offered hpending]
  exact exec_performs_or_reserved _ (by simpa using hinv.wi)

/-- Settles O8: accepting an input changes the list of inputs and the RTC port only. -/
theorem stepPerformsTheOfferedOperation : Obligations.StepPerformsTheOfferedOperation := by
  intro c s inp rest hpending
  exact step_offered hpending

end Sys2Proof.Machine
end

/-! PROOFS. The state of the block (`10_state.md`): what each operation does to each register, the invariant, the
refusal mark of a run, and that left-over bytes of `FB` are never observed. -/

namespace Sys2Proof

/-- The two reserved rows of the opcode table (`60_exceptions.md` R202). -/
def Instr.isReserved : Instr → Bool
  | .reservedKind _ _ | .reservedData _ _ => true
  | .feedLiteral _ | .feedEscape | .feedStart | .feedData _ | .linkInit | .linkRead | .reset => false

@[simp] theorem decodeFeed_isReserved (esc : Bool) (b : Byte) : (decodeFeed esc b).isReserved = false := by
  unfold decodeFeed
  split_ifs <;> rfl

end Sys2Proof

namespace Sys2Proof.Machine

variable {c : Config}

/-! ## Reserved words are refused, and nothing else is -/

theorem decode_feedWord (esc : Bool) (b : Byte) : decode esc (feedWord b) = decodeFeed esc b := by
  simp [feedWord, decode_mkTxn]

/-- A word decodes to a reserved row exactly when it is reserved (`30_encoding.md` R62). -/
theorem decode_isReserved (esc : Bool) (w : Txn) : (decode esc w).isReserved = true ↔ reservedWord w := by
  rw [← mkTxn_fields w, decode_mkTxn, reservedWord, txnKind_mkTxn, txnData_mkTxn]
  generalize txnKind w = k
  generalize txnData w = d
  by_cases hfeed : k = 0
  · rw [if_pos hfeed, decodeFeed_isReserved]
    simp [hfeed]
  by_cases hkind : 4 ≤ k.toNat
  · rw [if_neg hfeed, if_pos hkind]
    exact iff_of_true rfl (Or.inl hkind)
  rw [if_neg hfeed, if_neg hkind]
  by_cases hdata : d = 0
  · simp only [hdata, hkind, ne_eq, not_true_eq_false, if_false, and_false, or_false, iff_false]
    split_ifs <;> exact Bool.false_ne_true
  · rw [if_pos hdata]
    exact iff_of_true rfl (Or.inr ⟨by bv_omega, hdata⟩)

theorem State.perform_eq_refused {s : State} {f : Block s.cfg → Host.Outcome (Block s.cfg) Fault Refusal}
    {r : Refusal} : s.perform f = .refused r ↔ f s.blk = .refused r := by
  unfold State.perform
  cases f s.blk <;> simp

theorem State.perform_eq_fault {s : State} {f : Block s.cfg → Host.Outcome (Block s.cfg) Fault Refusal}
    {r : Fault} : s.perform f = .fault r ↔ f s.blk = .fault r := by
  unfold State.perform
  cases f s.blk <;> simp

theorem Block.append_ne_refused (s : Block c) (b : Byte) (r : Refusal) : s.append b ≠ .refused r := by
  unfold Block.append
  split <;> simp

theorem Block.append_eq_fault_iff (s : Block c) (b : Byte) : s.append b = .fault .fbIndex ↔ c.frameLen ≤ s.wi := by
  unfold Block.append
  split <;> simp <;> omega

/-- Exactly the operations of the reserved rows are refused. -/
theorem exec_refused_iff (i : Instr) (s : Block c) : exec i ⟨c, s⟩ = .refused .reservedTxn ↔ i.isReserved = true := by
  cases i with
  | feedLiteral b =>
    rw [exec_feedLiteral, State.perform_eq_refused]
    exact iff_of_false (Block.append_ne_refused _ b _) nofun
  | feedData b =>
    rw [exec_feedData, State.perform_eq_refused]
    exact iff_of_false (Block.append_ne_refused _ b _) nofun
  | feedEscape | feedStart | linkInit | linkRead | reset => exact iff_of_false nofun nofun
  | reservedKind k d | reservedData k d => exact iff_of_true rfl rfl

/-- Exactly the reserved words are refused. -/
theorem exec_decode_refused_iff (esc : Bool) (w : Txn) (s : Block c) :
    exec (decode esc w) ⟨c, s⟩ = .refused .reservedTxn ↔ reservedWord w :=
  (exec_refused_iff _ s).trans (decode_isReserved esc w)

/-- Settles O16: APPEND stops at the bound of `WI`, and the two appending operations are their APPEND. -/
theorem appendOutsideTheBufferFaults : Obligations.AppendOutsideTheBufferFaults := by
  intro c s i b hi
  cases i with
  | feedLiteral v =>
    rw [exec_feedLiteral, State.perform_eq_fault]
    exact Block.append_eq_fault_iff _ v
  | feedData v =>
    rw [exec_feedData, State.perform_eq_fault]
    exact Block.append_eq_fault_iff _ v
  | _ => cases hi

/-! ## What ON_FRAME and APPEND make of each register -/

/-- ON_FRAME leaves `LS` alone or enters READ (`42_link_fsm.md` R146). -/
theorem Block.onFrame_ls (cf : List Byte) (s : Block c) : (s.onFrame cf).ls = s.ls ∨ (s.onFrame cf).ls = .read := by
  apply s.onFrame_of cf (P := fun t => t.ls = s.ls ∨ t.ls = .read)
  case h2 => exact Or.inr rfl
  all_goals exact Or.inl rfl

/-- ON_FRAME writes `EPOCH` in the handshake only (`10_state.md` R25). -/
theorem Block.onFrame_epoch (cf : List Byte) {s : Block c} (h : s.actOut = []) :
    (s.onFrame cf).epoch = if (s.onFrame cf).shookHands then s.rtcIn else s.epoch := by
  apply s.onFrame_of cf (P := fun t => t.epoch = if t.shookHands then s.rtcIn else s.epoch) <;>
    simp [h, Action.isHandshake]

/-- From empty outputs ON_FRAME makes outputs of one kind (`10_state.md` R28). -/
theorem Block.onFrame_outputsOk (cf : List Byte) {s : Block c} (h : s.Quiet) : (s.onFrame cf).OutputsOk := by
  obtain ⟨hact, hcmd, hrec⟩ := h
  apply s.onFrame_of cf (P := fun t => t.OutputsOk) <;>
    simp [Block.OutputsOk, Block.Quiet, hact, hcmd, hrec]

section Append
variable {s t : Block c} {b : Byte} (h : s.append b = .next t)
include h

theorem Block.append_esc : t.esc = s.esc := by
  rcases Block.append_next h with ⟨_, rfl⟩ | ⟨_, rfl⟩ <;> simp

theorem Block.append_pending : t.pending = s.pending := by
  rcases Block.append_next h with ⟨_, rfl⟩ | ⟨_, rfl⟩ <;> simp

theorem Block.append_fb : t.fb = s.fb.write s.wi b := by
  rcases Block.append_next h with ⟨_, rfl⟩ | ⟨_, rfl⟩ <;> simp

theorem Block.append_wi : s.wi < c.frameLen ∧ (t.wi = 0 ∨ t.wi = s.wi + 1 ∧ s.wi + 1 < c.frameLen) := by
  rcases Block.append_next h with ⟨hwi, rfl⟩ | ⟨hwi, rfl⟩
  · exact ⟨by omega, Or.inr ⟨rfl, hwi⟩⟩
  · exact ⟨by omega, Or.inl (by simp)⟩

theorem Block.append_ls : t.ls = s.ls ∨ t.ls = .read := by
  rcases Block.append_next h with ⟨_, rfl⟩ | ⟨_, rfl⟩
  · exact Or.inl rfl
  · exact Block.onFrame_ls _ ((s.memWrite s.wi b).setWi 0)

theorem Block.append_epoch (hact : s.actOut = []) : t.epoch = if t.shookHands then s.rtcIn else s.epoch := by
  rcases Block.append_next h with ⟨_, rfl⟩ | ⟨_, rfl⟩
  · simp [hact]
  · exact Block.onFrame_epoch _ (s := (s.memWrite s.wi b).setWi 0) hact

theorem Block.append_outputsOk (hquiet : s.Quiet) : t.OutputsOk := by
  rcases Block.append_next h with ⟨_, rfl⟩ | ⟨_, rfl⟩
  · exact Or.inl hquiet
  · exact Block.onFrame_outputsOk _ (s := (s.memWrite s.wi b).setWi 0) hquiet

end Append

/-! ## What an operation makes of each register -/

section Exec
variable {s t : Block c} {i : Instr} (h : exec i ⟨c, s⟩ = .next ⟨c, t⟩)
include h

/-- An operation that answers a next block is an APPEND from empty outputs, with some `ESC`, or one of the five other
updates. -/
theorem exec_cases :
    (∃ b e, appendedByte i = some b ∧ Block.append b { s.beginStep with esc := e } = .next t) ∨
    (i = .feedEscape ∧ t = s.beginStep.setEsc) ∨
    (i = .feedStart ∧ t = s.beginStep.setWi 0) ∨
    (i = .linkInit ∧ t = s.beginStep.setLs .init) ∨
    (i = .linkRead ∧ t = s.beginStep.setLs .read) ∨
    (i = .reset ∧ t = (((s.beginStep.clearEsc.setWi 0).fbForget).setLs c.lsReset).setEpoch c.epochReset) := by
  obtain ⟨k, ⟨⟩, ⟨b, rfl, hk⟩ | ⟨b, rfl, hk⟩ | hother⟩ := exec_next h
  · exact Or.inl ⟨b, false, rfl, hk⟩
  · exact Or.inl ⟨b, s.esc, rfl, hk⟩
  · exact Or.inr hother

theorem exec_pending : t.pending = s.pending := by
  rcases exec_cases h with ⟨b, e, _, hk⟩ | ⟨_, rfl⟩ | ⟨_, rfl⟩ | ⟨_, rfl⟩ | ⟨_, rfl⟩ | ⟨_, rfl⟩
  case inl => exact (Block.append_pending hk :)
  all_goals rfl

/-- An operation leaves `FB` and does not raise `WI`; or it stores a byte at `WI` inside the buffer, and `WI` moves on
to another index of the buffer, or to 0; or it is RESET. -/
theorem exec_buffer :
    (t.fb = s.fb ∧ t.wi ≤ s.wi) ∨
    (s.wi < c.frameLen ∧ (∃ b, t.fb = s.fb.write s.wi b) ∧ (t.wi = 0 ∨ t.wi = s.wi + 1 ∧ s.wi + 1 < c.frameLen)) ∨
    (t.fb = [] ∧ t.wi = 0) := by
  rcases exec_cases h with ⟨b, e, _, hk⟩ | ⟨_, rfl⟩ | ⟨_, rfl⟩ | ⟨_, rfl⟩ | ⟨_, rfl⟩ | ⟨_, rfl⟩
  case inl =>
    obtain ⟨hin, hwi⟩ := Block.append_wi hk
    exact Or.inr (Or.inl ⟨hin, ⟨b, (Block.append_fb hk :)⟩, hwi⟩)
  all_goals simp

/-- An operation leaves `LS`, or sets it to INIT, READ or the reset value (`42_link_fsm.md` R146). -/
theorem exec_ls : t.ls = s.ls ∨ t.ls = .init ∨ t.ls = .read ∨ t.ls = c.lsReset := by
  rcases exec_cases h with ⟨b, e, _, hk⟩ | ⟨_, rfl⟩ | ⟨_, rfl⟩ | ⟨_, rfl⟩ | ⟨_, rfl⟩ | ⟨_, rfl⟩
  case inl => exact (Block.append_ls hk).imp_right fun hread => Or.inr (Or.inl hread)
  all_goals simp

theorem exec_epoch : t.epoch = if i = .reset then c.epochReset else if t.shookHands then s.rtcIn else s.epoch := by
  rcases exec_cases h with ⟨b, e, hi, hk⟩ | ⟨rfl, rfl⟩ | ⟨rfl, rfl⟩ | ⟨rfl, rfl⟩ | ⟨rfl, rfl⟩ | ⟨rfl, rfl⟩
  case inl =>
    have hreset : i ≠ .reset := by rintro rfl; cases hi
    rw [if_neg hreset]
    exact (Block.append_epoch hk rfl :)
  all_goals simp

theorem exec_outputsOk : t.OutputsOk := by
  rcases exec_cases h with ⟨b, e, _, hk⟩ | ⟨_, rfl⟩ | ⟨_, rfl⟩ | ⟨_, rfl⟩ | ⟨_, rfl⟩ | ⟨_, rfl⟩
  case inl => exact Block.append_outputsOk hk ⟨rfl, rfl, rfl⟩
  all_goals exact Or.inl ⟨rfl, rfl, rfl⟩

/-- An operation leaves `WI` inside the buffer (`10_state.md` R22). -/
theorem exec_wi_lt (hwi : s.wi < c.frameLen) : t.wi < c.frameLen := by
  rcases exec_buffer h with ⟨_, hle⟩ | ⟨_, _, hzero | ⟨hnext, hlt⟩⟩ | ⟨_, hzero⟩ <;> omega

end Exec

/-- `ESC` after a FEED is 1 exactly for an unescaped escape sentinel (`41_deframer.md` R121 to R124). -/
theorem exec_decodeFeed_esc {s t : Block c} {b : Byte} (h : exec (decodeFeed s.esc b) ⟨c, s⟩ = .next ⟨c, t⟩) :
    t.esc = (!s.esc && decide (b = escapeSentinel)) := by
  unfold decodeFeed at h
  split_ifs at h with hesc hescape hstart
  · obtain ⟨k, hk, ⟨⟩⟩ := State.perform_eq_next ((exec_feedLiteral b s).symm.trans h)
    simpa [hesc] using Block.append_esc hk
  · cases h
    simp [hesc, hescape]
  · cases h
    simpa [hescape] using hesc
  · obtain ⟨k, hk, ⟨⟩⟩ := State.perform_eq_next ((exec_feedData b s).symm.trans h)
    have hkeep : t.esc = s.esc := (Block.append_esc hk :)
    simpa [hescape, hkeep] using hesc

/-! ## The statements about one operation or one step -/

/-- A step that answers a next state performs the operation of the first offered word; the parameters stay. -/
theorem step_next_block {s : Block c} {t : State} (h : step ⟨c, s⟩ = .next t) : ∃ (k : Block c) (inp : Input c)
    (rest : List (Input c)), t = ⟨c, k⟩ ∧ s.pending = inp :: rest ∧
      exec (decode s.esc inp.txn) ⟨c, s.accept inp rest⟩ = .next ⟨c, k⟩ := by
  obtain ⟨inp, rest, hpending, hexec⟩ := step_next h
  obtain ⟨k, rfl, _⟩ := exec_next hexec
  exact ⟨k, inp, rest, rfl, hpending, hexec⟩

/-- Settles O11: one operation leaves the list of inputs, the step took its head off. -/
theorem configurationNeverChanges : Obligations.ConfigurationNeverChanges := by
  rintro ⟨c, s⟩ t h
  obtain ⟨k, inp, rest, rfl, hpending, hexec⟩ := step_next_block h
  have hk : k.pending = rest := exec_pending hexec
  simp [hk, hpending]

/-- Settles O19: FEED decodes by the dispatch of R120, the byte fits in the buffer, and the operation keeps `WI`
inside. -/
theorem feedIsAlwaysPerformed : Obligations.FeedIsAlwaysPerformed := by
  intro c s inp rest b hwi hpending hword
  have hstep : step ⟨c, s⟩ = exec (decodeFeed s.esc b) ⟨c, s.accept inp rest⟩ := by
    rw [step_offered hpending, hword, decode_feedWord]
  refine ⟨hstep, ?_⟩
  obtain ⟨k, hexec⟩ | hrefused := exec_performs_or_reserved (decodeFeed s.esc b) (s := s.accept inp rest) hwi
  · obtain ⟨t, rfl, _⟩ := exec_next hexec
    exact ⟨t, hstep.trans hexec, exec_wi_lt hexec hwi, exec_decodeFeed_esc (s := s.accept inp rest) hexec⟩
  · simp [exec_refused_iff] at hrefused

/-- Settles O21: the operation of the step starts from empty outputs; the two status views are `LS` and `EPOCH`. -/
theorem outputsAreOfOneKind : Obligations.OutputsAreOfOneKind := by
  rintro ⟨c, s⟩ t h
  obtain ⟨k, _, _, rfl, _, hexec⟩ := step_next_block h
  exact ⟨exec_outputsOk hexec, rfl, rfl⟩

/-- Settles O41: of the four values an operation can leave in `LS`, INIT and READ are known. -/
theorem unknownStateOnlyByReset : Obligations.UnknownStateOnlyByReset := by
  intro c s t h hunknown
  obtain ⟨_, _, _, ⟨⟩, _, hexec⟩ := step_next_block h
  rcases exec_ls hexec with hsame | hinit | hread | hreset
  · exact Or.inl hsame
  · simp [hinit] at hunknown
  · simp [hread] at hunknown
  · exact Or.inr hreset

/-- Settles O42: RESET writes the reset value, and a completion writes `EPOCH` in its handshake only. -/
theorem epochWrittenOnlyByHandshakeOrReset : Obligations.EpochWrittenOnlyByHandshakeOrReset :=
  fun _ _ _ _ h => exec_epoch h

/-- Settles O50: a word of kind 011 with data not 0 is reserved. -/
theorem resetWritesEveryRegister : Obligations.ResetWritesEveryRegister := by
  refine fun c s => ⟨rfl, ?_, fun d hd t => ?_⟩
  · cases s.esc <;> decide
  · exact (exec_decode_refused_iff s.esc (mkTxn 0b011 d) t.blk).2 (Or.inr (by simpa using hd))

/-- Settles O51: each value stands in the definition of the reset block. -/
theorem resetStateHoldsTheResetValues : Obligations.ResetStateHoldsTheResetValues :=
  ⟨fun _ => ⟨rfl, rfl, rfl, rfl, rfl, rfl, rfl⟩, rfl, rfl, rfl⟩

/-- Settles O55: the codes stand in the definitions of the two encoders. -/
theorem portCodes : Obligations.PortCodes :=
  ⟨rfl, rfl, rfl, rfl, fun _ _ => ⟨rfl, rfl, rfl, rfl⟩⟩

/-! ## The invariant -/

/-- An empty buffer with `WI = 0` meets the invariant, whatever the other registers but `LS` hold. -/
theorem Block.inv_of_empty {s : Block c} (hc : c.wf) (hwi : s.wi = 0) (hfb : s.fb = [])
    (hls : s.ls = .init ∨ s.ls = .read ∨ s.ls = c.lsReset) : s.Inv where
  cfg := hc
  wi := by have := hc.1; omega
  fbCanonical := hfb ▸ Memory.wf_nil
  fbInside := by simp [hfb]
  fbWritten := by simp [hwi]
  ls := hls

theorem Memory.write_inside {m : Memory} {n i : Nat} (h : ∀ cell ∈ m, cell.1 < n) (hi : i < n) (v : Byte) :
    ∀ cell ∈ m.write i v, cell.1 < n := by
  intro cell hcell
  rcases (Memory.mem_keys_write m i v cell.1).1 (List.mem_map_of_mem hcell) with heq | hmem
  · exact heq ▸ hi
  · obtain ⟨old, hold, heq⟩ := List.mem_map.1 hmem
    exact heq ▸ h old hold

theorem Memory.read_write_isSome {m : Memory} {i n : Nat} (h : ∀ a < i, (m.read a).isSome) (hn : n ≤ i + 1) (v : Byte) :
    ∀ a < n, ((m.write i v).read a).isSome := by
  intro a ha
  rw [Memory.read_write]
  split_ifs with heq
  · rfl
  · exact h a (by omega)

/-- Every operation keeps the invariant (`10_state.md` section 2). -/
theorem exec_inv {s t : Block c} {i : Instr} (hinv : s.Inv) (h : exec i ⟨c, s⟩ = .next ⟨c, t⟩) : t.Inv := by
  have hls : t.ls = .init ∨ t.ls = .read ∨ t.ls = c.lsReset := by
    rcases exec_ls h with hsame | hset
    · exact hsame ▸ hinv.ls
    · exact hset
  have hwi := exec_wi_lt h hinv.wi
  rcases exec_buffer h with ⟨hfb, hle⟩ | ⟨_, ⟨b, hfb⟩, hnext⟩ | ⟨hfb, hzero⟩
  · exact ⟨hinv.cfg, hwi, hfb ▸ hinv.fbCanonical, hfb ▸ hinv.fbInside,
      hfb ▸ fun a ha => hinv.fbWritten a (by omega), hls⟩
  · exact ⟨hinv.cfg, hwi, hfb ▸ Memory.write_wf hinv.fbCanonical s.wi b,
      hfb ▸ Memory.write_inside hinv.fbInside hinv.wi b,
      hfb ▸ Memory.read_write_isSome hinv.fbWritten (by omega) b, hls⟩
  · exact Block.inv_of_empty hinv.cfg hzero hfb hls

theorem Block.Inv.accept {s : Block c} (h : s.Inv) (inp : Input c) (rest : List (Input c)) : (s.accept inp rest).Inv :=
  ⟨h.cfg, h.wi, h.fbCanonical, h.fbInside, h.fbWritten, h.ls⟩

/-- Settles O52: accepting an input touches nothing the invariant speaks of, and the operation keeps it. -/
theorem stepKeepsTheInvariant : Obligations.StepKeepsTheInvariant := by
  rintro ⟨c, s⟩ t hinv h
  obtain ⟨k, inp, rest, rfl, _, hexec⟩ := step_next_block h
  exact exec_inv (hinv.accept inp rest) hexec

/-- Settles O53: the reset block has an empty buffer, `WI = 0` and the reset value in `LS`. -/
theorem resetMeetsTheInvariant : Obligations.ResetMeetsTheInvariant := by
  have hreset : ∀ c : Config, c.wf → (Block.reset c).Inv := fun c hc =>
    Block.inv_of_empty hc rfl rfl (Or.inr (Or.inr rfl))
  exact ⟨hreset, hreset Config.ref (by decide)⟩

/-! ## The refusal mark of a run -/

/-- A longer run keeps the refusal mark (`60_exceptions.md` R202). -/
theorem run_refused_mono {m n : Nat} {s : State} {r : Refusal} (hmn : m ≤ n) (h : run m s = .refused r) :
    run n s = .refused r := by
  induction m generalizing n s with
  | zero => cases h
  | succ m ih =>
    obtain ⟨n, rfl⟩ := Nat.exists_eq_succ_of_ne_zero (Nat.ne_zero_of_lt hmn)
    rcases run_succ_cases m s with ⟨t, hstep, hrun⟩ | ⟨_, _, hrun⟩ | ⟨_, hstep, hrun⟩
    · rw [hrun, Run.after_eq_refused] at h
      rw [run_next hstep, Run.after_eq_refused]
      exact ih (Nat.le_of_succ_le_succ hmn) h
    · cases hrun.symm.trans h
    · rw [run_refused hstep, ← hrun, h]

/-- Under the invariant a word that is not reserved is performed. -/
theorem step_performs {s : Block c} {inp : Input c} {rest : List (Input c)} (hinv : s.Inv)
    (hpending : s.pending = inp :: rest) (hword : ¬ reservedWord inp.txn) :
    ∃ t : Block c, step ⟨c, s⟩ = .next ⟨c, t⟩ ∧ t.Inv ∧ t.pending = rest := by
  rw [step_offered hpending]
  obtain ⟨k, hexec⟩ | hrefused := exec_performs_or_reserved (decode s.esc inp.txn) (s := s.accept inp rest) hinv.wi
  · obtain ⟨t, rfl, _⟩ := exec_next hexec
    exact ⟨t, hexec, exec_inv (hinv.accept inp rest) hexec, exec_pending hexec⟩
  · exact absurd ((exec_decode_refused_iff _ _ _).1 hrefused) hword

/-- Under the invariant a run has the refusal mark exactly when it meets a reserved word. -/
theorem run_refused_iff (n : Nat) {s : Block c} (hinv : s.Inv) :
    run n ⟨c, s⟩ = .refused .reservedTxn ↔ ∃ inp ∈ s.pending.take n, reservedWord inp.txn := by
  induction n generalizing s with
  | zero => simp
  | succ n ih =>
    rcases hpending : s.pending with _ | ⟨inp, rest⟩
    · simp [run_fault (step_empty hpending)]
    by_cases hword : reservedWord inp.txn
    · have hstep : step ⟨c, s⟩ = .refused .reservedTxn :=
        (step_offered hpending).trans ((exec_decode_refused_iff _ _ _).2 hword)
      exact iff_of_true (run_refused hstep) ⟨inp, by simp, hword⟩
    · obtain ⟨t, hstep, htinv, htpending⟩ := step_performs hinv hpending hword
      rw [run_next hstep, Run.after_eq_refused, ih htinv, htpending]
      simp [hword]

/-- Settles O7: a longer run keeps the mark, and by induction over the run the first reserved word makes it. -/
theorem refusalMarkIsKept : Obligations.RefusalMarkIsKept :=
  ⟨fun _ _ _ _ hmn h => run_refused_mono hmn h, fun n _ hinv => run_refused_iff n hinv⟩

/-! ## The RTC port -/

/-- The block with another value on `rtc_in`. -/
abbrev Block.withRtcIn (s : Block c) (v : BitVec c.rtcW) : Block c := { s with rtcIn := v }

theorem Block.handshake_shookHands (s : Block c) : s.handshake.shookHands = true := by simp [Action.isHandshake]

/-- ON_FRAME without a handshake does not read `rtc_in`. -/
theorem Block.onFrame_withRtcIn (cf : List Byte) {s : Block c} (v : BitVec c.rtcW)
    (h : (s.onFrame cf).shookHands = false) : (s.withRtcIn v).onFrame cf = (s.onFrame cf).withRtcIn v := by
  rcases s.onFrame_cases cf with ⟨hv, heq⟩ | ⟨_, _, heq⟩ | ⟨hv, hl, heq⟩ | ⟨hv, hl, heq⟩
  · rw [heq, Block.onFrame_bad hv]; rfl
  · rw [heq, Block.handshake_shookHands] at h
    cases h
  · rw [heq, Block.onFrame_read hv (s := s.withRtcIn v) hl]; rfl
  · rw [heq, Block.onFrame_undef hv (s := s.withRtcIn v) hl]; rfl

/-- APPEND without a handshake does not read `rtc_in`. -/
theorem Block.append_withRtcIn {s t : Block c} {b : Byte} (v : BitVec c.rtcW) (h : s.append b = .next t)
    (hshake : t.shookHands = false) : (s.withRtcIn v).append b = .next (t.withRtcIn v) := by
  rcases Block.append_next h with ⟨hwi, rfl⟩ | ⟨hwi, rfl⟩
  · exact Block.append_partial (s := s.withRtcIn v) b hwi
  · rw [← Block.onFrame_withRtcIn _ v hshake]
    exact Block.append_complete (s := s.withRtcIn v) b hwi

/-- Settles O44: a completion without a handshake does not read `rtc_in`, and no other update does. -/
theorem rtcIsReadOnlyByTheHandshake : Obligations.RtcIsReadOnlyByTheHandshake := by
  intro c s t i v h hshake
  obtain ⟨_, ⟨⟩, ⟨b, rfl, hk⟩ | ⟨b, rfl, hk⟩ | ⟨rfl, rfl⟩ | ⟨rfl, rfl⟩ | ⟨rfl, rfl⟩ | ⟨rfl, rfl⟩ | ⟨rfl, rfl⟩⟩ :=
    exec_next h
  · exact exec_feedLiteral_next (Block.append_withRtcIn v hk hshake)
  · exact exec_feedData_next (Block.append_withRtcIn v hk hshake)
  all_goals rfl

/-! ## Left-over bytes of the frame buffer -/

/-- The block with another frame buffer and another draw. -/
abbrev Block.withBuffer (s : Block c) (m : Memory) (d : Nat) : Block c := { s with fb := m, fbDraw := d }

/-- `WI` lies inside the buffer, and the blocks are equal but for the bytes of `FB` not yet written for the frame under
construction (`20_memory.md` R41). -/
structure Block.EqualButFreeBytes (s t : Block c) : Prop where
  inside : s.wi < c.frameLen
  rest : ∃ m d, t = s.withBuffer m d
  bytes : ∀ a < s.wi, t.fbByte a = s.fbByte a

/-- Two outcomes of one kind, next blocks equal but for free bytes. -/
inductive EqualOutcomes (c : Config) : Result → Result → Prop
  | next {s t : Block c} (h : s.EqualButFreeBytes t) : EqualOutcomes c (.next ⟨c, s⟩) (.next ⟨c, t⟩)
  | fault (r : Fault) : EqualOutcomes c (.fault r) (.fault r)
  | refused (r : Refusal) : EqualOutcomes c (.refused r) (.refused r)

/-- An update that keeps `FB`, does not raise `WI` and does not look at `FB` keeps the blocks equal but for free
bytes. -/
theorem Block.EqualButFreeBytes.update {s t : Block c} (h : s.EqualButFreeBytes t) (f : Block c → Block c)
    (hf : ∀ m d, f (s.withBuffer m d) = (f s).withBuffer m d) (hwi : (f s).wi ≤ s.wi)
    (hfb : (f s).fb = s.fb) (hdraw : (f s).fbDraw = s.fbDraw) : (f s).EqualButFreeBytes (f t) := by
  obtain ⟨hin, ⟨m, d, rfl⟩, hbytes⟩ := h
  refine ⟨by omega, ⟨m, d, hf m d⟩, fun a ha => ?_⟩
  calc (f (s.withBuffer m d)).fbByte a = (s.withBuffer m d).fbByte a := by rw [hf]; rfl
    _ = s.fbByte a := hbytes a (by omega)
    _ = (f s).fbByte a := by rw [Block.fbByte, Block.fbByte, hfb, hdraw]

/-- ON_FRAME does not look at `FB`: it works on the snapshot. -/
theorem Block.onFrame_withBuffer (cf : List Byte) (s : Block c) (m : Memory) (d : Nat) :
    (s.withBuffer m d).onFrame cf = (s.onFrame cf).withBuffer m d := by
  rcases s.onFrame_cases cf with ⟨hv, heq⟩ | ⟨hv, hl, heq⟩ | ⟨hv, hl, heq⟩ | ⟨hv, hl, heq⟩
  · rw [heq, Block.onFrame_bad hv]; rfl
  · rw [heq, Block.onFrame_init hv (s := s.withBuffer m d) hl]; rfl
  · rw [heq, Block.onFrame_read hv (s := s.withBuffer m d) hl]; rfl
  · rw [heq, Block.onFrame_undef hv (s := s.withBuffer m d) hl]; rfl

/-- The byte stored at `WI` is equal in both blocks, as are the bytes below. -/
theorem Block.EqualButFreeBytes.stored_bytes {s t : Block c} (h : s.EqualButFreeBytes t) (b : Byte) :
    ∀ a < s.wi + 1, (t.memWrite s.wi b).fbByte a = (s.memWrite s.wi b).fbByte a := by
  intro a ha
  rcases Nat.lt_succ_iff_lt_or_eq.1 ha with hlt | rfl
  · rw [Block.fbByte_memWrite_ne _ _ hlt.ne, Block.fbByte_memWrite_ne _ _ hlt.ne, h.bytes a hlt]
  · simp

/-- APPEND has equal outcomes: at a completion every byte of the frame is written, so the snapshots are equal. -/
theorem Block.EqualButFreeBytes.append {s t : Block c} (h : s.EqualButFreeBytes t) (b : Byte) :
    ∃ s' t' : Block c, s.append b = .next s' ∧ t.append b = .next t' ∧ s'.EqualButFreeBytes t' := by
  have hbytes := h.stored_bytes b
  obtain ⟨hin, ⟨m, d, rfl⟩, -⟩ := h
  rcases Nat.lt_or_eq_of_le (Nat.succ_le_of_lt hin) with hpart | hfull
  · exact ⟨_, _, Block.append_partial b hpart, Block.append_partial (s := s.withBuffer m d) b hpart,
      hpart, ⟨_, _, rfl⟩, hbytes⟩
  · have hcf : ((s.withBuffer m d).memWrite s.wi b).snapshot = (s.memWrite s.wi b).snapshot := by
      refine Block.snapshot_eq (by simp) fun a ha => ?_
      rw [Block.snapshot_getElem? _ ha, hbytes a (by omega)]
    refine ⟨_, _, Block.append_complete b hfull, Block.append_complete (s := s.withBuffer m d) b hfull, ?_⟩
    rw [hcf]
    exact ⟨by simpa using Nat.zero_lt_of_lt hin,
      ⟨m.write s.wi b, d, Block.onFrame_withBuffer _ ((s.memWrite s.wi b).setWi 0) _ _⟩, by simp⟩

/-- Every operation has equal outcomes on blocks equal but for free bytes. -/
theorem Block.EqualButFreeBytes.exec {s t : Block c} (h : s.EqualButFreeBytes t) (i : Instr) :
    EqualOutcomes c (exec i ⟨c, s⟩) (exec i ⟨c, t⟩) := by
  have hbegin : s.beginStep.EqualButFreeBytes t.beginStep :=
    h.update Block.beginStep (fun _ _ => rfl) le_rfl rfl rfl
  cases i with
  | feedLiteral b =>
    obtain ⟨s', t', hs, ht, hnext⟩ :=
      (hbegin.update Block.clearEsc (fun _ _ => rfl) le_rfl rfl rfl).append b
    rw [exec_feedLiteral_next hs, exec_feedLiteral_next ht]
    exact .next hnext
  | feedData b =>
    obtain ⟨s', t', hs, ht, hnext⟩ := hbegin.append b
    rw [exec_feedData_next hs, exec_feedData_next ht]
    exact .next hnext
  | feedEscape => exact .next (hbegin.update Block.setEsc (fun _ _ => rfl) le_rfl rfl rfl)
  | feedStart => exact .next (hbegin.update (·.setWi 0) (fun _ _ => rfl) (Nat.zero_le _) rfl rfl)
  | linkInit => exact .next (hbegin.update (·.setLs .init) (fun _ _ => rfl) le_rfl rfl rfl)
  | linkRead => exact .next (hbegin.update (·.setLs .read) (fun _ _ => rfl) le_rfl rfl rfl)
  | reset =>
    obtain ⟨hin, ⟨m, d, rfl⟩, -⟩ := h
    exact .next ⟨Nat.zero_lt_of_lt hin, ⟨[], d + 1, rfl⟩, by simp⟩
  | reservedKind k d | reservedData k d => exact .refused _

/-- A step has equal outcomes on blocks equal but for free bytes. -/
theorem Block.EqualButFreeBytes.step {s t : Block c} (h : s.EqualButFreeBytes t) :
    EqualOutcomes c (step ⟨c, s⟩) (step ⟨c, t⟩) := by
  obtain ⟨m, d, rfl⟩ := h.rest
  rcases hpending : s.pending with _ | ⟨inp, rest⟩
  · rw [step_empty hpending, step_empty (s := s.withBuffer m d) hpending]
    exact .fault _
  · rw [step_offered hpending, step_offered (s := s.withBuffer m d) hpending]
    exact (h.update (·.accept inp rest) (fun _ _ => rfl) le_rfl rfl rfl).exec (decode s.esc inp.txn)

/-- Two runs of one length from blocks equal but for free bytes have the same refusal mark, or visit states that
differ in the frame buffer only. -/
theorem Block.EqualButFreeBytes.run {s t : Block c} (h : s.EqualButFreeBytes t) (n : Nat) :
    (∃ r, run n ⟨c, s⟩ = .refused r ∧ run n ⟨c, t⟩ = .refused r) ∨
    ∃ ts ts' : List (Block c), run n ⟨c, s⟩ = .visited (ts.map (State.mk c)) ∧
      run n ⟨c, t⟩ = .visited (ts'.map (State.mk c)) ∧
      List.Forall₂ (fun u u' => ∃ m d, u' = u.withBuffer m d) ts ts' := by
  induction n generalizing s t with
  | zero => exact Or.inr ⟨[], [], rfl, rfl, .nil⟩
  | succ n ih =>
    have hstep := h.step
    generalize hs : Machine.step ⟨c, s⟩ = x at hstep
    generalize ht : Machine.step ⟨c, t⟩ = y at hstep
    cases hstep with
    | fault r => exact Or.inr ⟨[], [], run_fault hs, run_fault ht, .nil⟩
    | refused r => exact Or.inl ⟨r, run_refused hs, run_refused ht⟩
    | next hnext =>
      rw [run_next hs, run_next ht]
      rcases ih hnext with ⟨r, hr, hr'⟩ | ⟨ts, ts', hts, hts', hrel⟩
      · exact Or.inl ⟨r, by rw [hr]; rfl, by rw [hr']; rfl⟩
      · exact Or.inr ⟨_ :: ts, _ :: ts', by rw [hts]; rfl, by rw [hts']; rfl, .cons hnext.rest hrel⟩

/-- Settles O25: the hypotheses say that the blocks are equal but for free bytes. -/
theorem leftoverBytesAreNeverObserved : Obligations.LeftoverBytesAreNeverObserved := by
  intro n c s m d hwi hbytes
  have h : s.EqualButFreeBytes (s.withBuffer m d) := ⟨hwi, ⟨m, d, rfl⟩, hbytes⟩
  exact h.run n

end Sys2Proof.Machine

/-! PROOFS. The frame buffer and the fields of a frame (`20_memory.md`): the byte orders, the stored CRC and the frame
SFRAME signs, and what an append writes. -/

namespace Sys2Proof.Machine

variable {c : Config}

/-! ## Field values -/

theorem frameByte_fieldBytes (cf : List Byte) (o : Nat) {w k : Nat} (h : k < w) :
    frameByte (fieldBytes cf o w) k = frameByte cf (o + k) := by
  rw [frameByte, fieldBytes, List.getD_eq_getElem _ _ (by simpa using h)]
  simp

theorem frameByte_reverse {bs : List Byte} {k : Nat} (h : k < bs.length) :
    frameByte bs.reverse k = frameByte bs (bs.length - 1 - k) :=
  congrFun (List.getD_reverse k h) 0

theorem frameByte_fieldBytes_reverse (cf : List Byte) (o : Nat) {w k : Nat} (h : k < w) :
    frameByte (fieldBytes cf o w).reverse k = frameByte cf (o + (w - 1 - k)) := by
  have hlen : (fieldBytes cf o w).length = w := by simp [fieldBytes]
  rw [frameByte_reverse (by omega), hlen, frameByte_fieldBytes cf o (by omega)]

/-- Bits `8k+7 .. 8k` of the number with the given bytes are those of byte `k`. -/
theorem littleEndian_testBit (bs : List Byte) (k : Nat) {j : Nat} (hj : j < 8) :
    (littleEndian bs).testBit (8 * k + j) = (frameByte bs k).getLsbD j := by
  induction bs generalizing k with
  | nil => simp [littleEndian, frameByte]
  | cons b bs ih =>
    have hsplit : littleEndian (b :: bs) = 2 ^ 8 * littleEndian bs + b.toNat := Nat.add_comm _ _
    rw [hsplit, Nat.testBit_two_pow_mul_add _ b.isLt]
    cases k with
    | zero => simp [hj, frameByte, BitVec.getLsbD]
    | succ k =>
      have hidx : 8 * (k + 1) + j - 8 = 8 * k + j := by omega
      rw [if_neg (by omega), hidx, ih]
      rfl

/-- Byte `k` of a number cut to `w` bytes is byte `k` of the number. -/
theorem extractByte_ofNat_littleEndian (bs : List Byte) {w k : Nat} (h : k < w) :
    (BitVec.ofNat (8 * w) (littleEndian bs)).extractLsb' (8 * k) 8 = frameByte bs k := by
  apply BitVec.eq_of_getLsbD_eq
  intro j hj
  have hin : 8 * k + j < 8 * w := by omega
  rw [BitVec.getLsbD_extractLsb', BitVec.getLsbD_ofNat, littleEndian_testBit bs k hj]
  simp [hj, hin]

/-- Settles O46: byte `k` of the value is byte `k` of the list of the field's bytes under LE, and of its reverse
under BE. -/
theorem fieldValueIsAssembledInOrder : Obligations.FieldValueIsAssembledInOrder := by
  intro cf o w k hk
  constructor
  · exact (extractByte_ofNat_littleEndian _ hk).trans (frameByte_fieldBytes cf o hk)
  · exact (extractByte_ofNat_littleEndian _ hk).trans (frameByte_fieldBytes_reverse cf o hk)

/-! ## The stored CRC -/

theorem storedCrc_le (cf : List Byte) (h : c.crcOrder = .le) :
    storedCrc c cf = frameByte cf (c.frameLen - 1) ++ frameByte cf (c.frameLen - 2) := by
  simp [storedCrc, h]

theorem storedCrc_be (cf : List Byte) (h : c.crcOrder = .be) :
    storedCrc c cf = frameByte cf (c.frameLen - 2) ++ frameByte cf (c.frameLen - 1) := by
  simp [storedCrc, h]

/-- Settles O47: the definition, by the two values of `CRC_ORDER`. -/
theorem storedCrcIsTheLastTwoBytes : Obligations.StoredCrcIsTheLastTwoBytes :=
  fun _ cf => ⟨storedCrc_le cf, storedCrc_be cf⟩

theorem frameByte_append_right (p q : List Byte) (k : Nat) : frameByte (p ++ q) (p.length + k) = frameByte q k := by
  rw [frameByte, List.getD_append_right _ _ _ _ (by omega), Nat.add_sub_cancel_left, frameByte]

/-- A CRC is its two bytes. -/
theorem crcHigh_append_crcLow (v : Crc) : v.extractLsb' 8 8 ++ v.extractLsb' 0 8 = v := by
  rw [BitVec.extractLsb'_append_extractLsb'_eq_extractLsb' (by rfl)]
  exact BitVec.extractLsb'_eq_self

/-- Reading the stored CRC undoes `crcbytes` of the same order, at the end of a frame of `FRAME_LEN` bytes. -/
theorem storedCrc_append_crcBytes {p : List Byte} (h : p.length + 2 = c.frameLen) (v : Crc) :
    storedCrc c (p ++ crcBytes c.crcOrder v) = v := by
  have hfirst : c.frameLen - 2 = p.length + 0 := by omega
  have hsecond : c.frameLen - 1 = p.length + 1 := by omega
  rcases horder : c.crcOrder with _ | _
  · rw [storedCrc_le _ horder, hfirst, hsecond, frameByte_append_right, frameByte_append_right]
    exact crcHigh_append_crcLow v
  · rw [storedCrc_be _ horder, hfirst, hsecond, frameByte_append_right, frameByte_append_right]
    exact crcHigh_append_crcLow v

theorem covered_signedFrame {p : List Byte} (h : p.length = coverLen c) : covered c (signedFrame c p) = p :=
  List.take_left' h

/-- Settles O32: the CRC covers the payload alone, and the two bytes after it read back as the CRC. -/
theorem signedFrameVerifies : Obligations.SignedFrameVerifies := by
  rintro c p ⟨hlen, -, -⟩ hp
  have hframe : p.length + 2 = c.frameLen := by
    simp only [coverLen, crcLen] at hp
    omega
  have hstored : storedCrc c (signedFrame c p) = crc16 p := storedCrc_append_crcBytes hframe _
  rw [verify, covered_signedFrame hp, hstored]
  exact beq_self_eq_true _

/-! ## The frame of an append -/

section Append
variable {s t : Block c} {b : Byte} (h : s.append b = .next t)
include h

theorem Block.append_rtcIn : t.rtcIn = s.rtcIn := by
  rcases Block.append_next h with ⟨_, rfl⟩ | ⟨_, rfl⟩ <;> simp

theorem Block.append_fbDraw : t.fbDraw = s.fbDraw := by
  rcases Block.append_next h with ⟨_, rfl⟩ | ⟨_, rfl⟩ <;> simp

theorem Block.append_wi_eq : t.wi = if s.wi + 1 = c.frameLen then 0 else s.wi + 1 := by
  rcases Block.append_next h with ⟨hlt, rfl⟩ | ⟨heq, rfl⟩
  · simp [hlt.ne]
  · simp [heq]

theorem Block.append_read_ne {a : Nat} (ha : a ≠ s.wi) : t.fb.read a = s.fb.read a := by
  rw [Block.append_fb h, Memory.read_write_ne _ _ ha]

theorem Block.append_fbByte_ne {a : Nat} (ha : a ≠ s.wi) : t.fbByte a = s.fbByte a := by
  rw [Block.fbByte, Block.append_read_ne h ha, Block.append_fbDraw h, Block.fbByte]

/-- Short of a completion APPEND is its write alone (`41_deframer.md` R125). -/
theorem Block.append_eq_stored (hwi : s.wi + 1 ≠ c.frameLen) : t = s.stored b := by
  rcases Block.append_next h with ⟨_, ht⟩ | ⟨heq, _⟩
  · exact ht
  · exact absurd heq hwi

end Append

/-- The two appending operations are their APPEND from empty outputs, FEED_LITERAL with `ESC` cleared. -/
theorem exec_append {s t : Block c} {i : Instr} {b : Byte} (hi : appendedByte i = some b)
    (h : exec i ⟨c, s⟩ = .next ⟨c, t⟩) :
    Block.append b { s.beginStep with esc := if i = .feedLiteral b then false else s.esc } = .next t := by
  obtain ⟨_, ⟨⟩, ⟨v, rfl, hk⟩ | ⟨v, rfl, hk⟩ | hother⟩ := exec_next h
  · cases hi
    rw [if_pos rfl]
    exact hk
  · cases hi
    exact hk
  · rcases hother with ⟨rfl, _⟩ | ⟨rfl, _⟩ | ⟨rfl, _⟩ | ⟨rfl, _⟩ | ⟨rfl, _⟩ <;> cases hi

/-- Settles O17: the operation is its APPEND, which writes `FB` at `WI` and moves `WI`; the rest is ON_FRAME's, at a
completion only. -/
theorem appendWritesOnlyItsIndex : Obligations.AppendWritesOnlyItsIndex := by
  intro c s t i b hi h
  have hk := exec_append hi h
  refine ⟨?_, fun a ha => Block.append_read_ne hk ha, fun a ha => Block.append_fbByte_ne hk ha,
    (Block.append_wi_eq hk :), Block.append_esc hk, (Block.append_pending hk :), (Block.append_rtcIn hk :),
    (Block.append_fbDraw hk :), fun hwi => ?_⟩
  · rw [Block.append_fb hk]
    exact Memory.read_write_same _ _ _
  · obtain rfl := Block.append_eq_stored hk hwi
    exact ⟨rfl, rfl, rfl, rfl, rfl⟩

end Sys2Proof.Machine

/-! PROOFS. The encoding (`30_encoding.md`): words and operations, and what the block makes of the payload units, the
stuffed frames and the SFRAME statement of the sender. -/

namespace Sys2Proof

/-! ## The classes of a FEED byte -/

theorem plain_iff (b : Byte) : b.toNat ≤ 0xFD ↔ b ≠ escapeSentinel ∧ b ≠ startSentinel := by
  unfold escapeSentinel startSentinel
  bv_omega

/-- The bytes a plain unit may carry are all but the two sentinels (`30_encoding.md` R64). -/
theorem plain_or_sentinel (b : Byte) : b.toNat ≤ 0xFD ∨ b = escapeSentinel ∨ b = startSentinel := by
  rw [plain_iff]
  tauto

@[simp] theorem decodeFeed_true (b : Byte) : decodeFeed true b = .feedLiteral b := rfl

@[simp] theorem decodeFeed_false_escape : decodeFeed false escapeSentinel = .feedEscape := rfl

@[simp] theorem decodeFeed_false_start : decodeFeed false startSentinel = .feedStart := rfl

theorem decodeFeed_false_plain {b : Byte} (h : b.toNat ≤ 0xFD) : decodeFeed false b = .feedData b := by
  obtain ⟨hescape, hstart⟩ := (plain_iff b).1 h
  simp [decodeFeed, hescape, hstart]

/-! ## The kinds of a reserved word -/

theorem decode_reservedKind (esc : Bool) (k : BitVec 2) (d : Byte) :
    decode esc (mkTxn (1#1 ++ k) d) = .reservedKind k d := by
  have hbits : ∀ k : BitVec 2, 1#1 ++ k ≠ 0 ∧ 4 ≤ (1#1 ++ k).toNat ∧ (1#1 ++ k).setWidth 2 = k := by decide
  obtain ⟨hfeed, hkind, hk⟩ := hbits k
  rw [decode_mkTxn, if_neg hfeed, if_pos hkind, hk]

theorem decode_reservedData (esc : Bool) {k : BitVec 2} {d : Byte} (hk : k ≠ 0) (hd : d ≠ 0) :
    decode esc (mkTxn (0#1 ++ k) d) = .reservedData k d := by
  have hbits : ∀ k : BitVec 2, k ≠ 0 → 0#1 ++ k ≠ 0 ∧ ¬ 4 ≤ (0#1 ++ k).toNat ∧ (0#1 ++ k).setWidth 2 = k := by decide
  obtain ⟨hfeed, hkind, hsame⟩ := hbits k hk
  rw [decode_mkTxn, if_neg hfeed, if_neg hkind, if_pos hd, hsame]

/-- A kind is FEED, or a reserved kind, or one of the three host transactions. -/
theorem kind_cases : ∀ k : BitVec 3, k = 0 ∨ (∃ j : BitVec 2, k = 1#1 ++ j) ∨ ∃ j : BitVec 2, j ≠ 0 ∧ k = 0#1 ++ j := by
  decide

end Sys2Proof

namespace Sys2Proof.Machine

variable {c : Config}

/-! ## Words and operations -/

/-- Settles O1: the condition on `ESC` and the operands of a row are the tests by which the decoder chooses it. -/
theorem decodeUndoesEncode : Obligations.DecodeUndoesEncode := by
  intro esc i hwf hesc
  cases i with
  | feedLiteral b =>
    obtain rfl : esc = true := hesc
    exact (decode_feedWord true b).trans (decodeFeed_true b)
  | feedEscape =>
    obtain rfl : esc = false := by simpa [Instr.escOk] using hesc
    exact (decode_feedWord false _).trans decodeFeed_false_escape
  | feedStart =>
    obtain rfl : esc = false := by simpa [Instr.escOk] using hesc
    exact (decode_feedWord false _).trans decodeFeed_false_start
  | feedData b =>
    obtain rfl : esc = false := by simpa [Instr.escOk] using hesc
    exact (decode_feedWord false b).trans (decodeFeed_false_plain (of_decide_eq_true hwf))
  | linkInit | linkRead | reset => exact (decode_mkTxn esc _ 0).trans rfl
  | reservedKind k d => exact decode_reservedKind esc k d
  | reservedData k d =>
    obtain ⟨hk, hd⟩ : k ≠ 0 ∧ d ≠ 0 := by simpa [Instr.wf] using hwf
    exact decode_reservedData esc hk hd

/-- Every word is the word of an operation that its row admits, for either value of `ESC`. -/
theorem exists_encode_eq (esc : Bool) (w : Txn) : ∃ i : Instr, i.wf = true ∧ i.escOk esc = true ∧ encode i = w := by
  rw [← mkTxn_fields w]
  generalize txnKind w = k
  generalize txnData w = d
  obtain rfl | ⟨j, rfl⟩ | ⟨j, hj, rfl⟩ := kind_cases k
  · cases esc
    · obtain hplain | rfl | rfl := plain_or_sentinel d
      · exact ⟨.feedData d, decide_eq_true hplain, rfl, rfl⟩
      · exact ⟨.feedEscape, rfl, rfl, rfl⟩
      · exact ⟨.feedStart, rfl, rfl, rfl⟩
    · exact ⟨.feedLiteral d, rfl, rfl, rfl⟩
  · exact ⟨.reservedKind j d, rfl, rfl, rfl⟩
  · by_cases hd : d = 0
    · subst hd
      have hhost : ∀ j : BitVec 2, j ≠ 0 → j = 1 ∨ j = 2 ∨ j = 3 := by decide
      obtain rfl | rfl | rfl := hhost j hj
      · exact ⟨.linkInit, rfl, rfl, rfl⟩
      · exact ⟨.linkRead, rfl, rfl, rfl⟩
      · exact ⟨.reset, rfl, rfl, rfl⟩
    · exact ⟨.reservedData j d, Bool.and_eq_true_iff.2 ⟨decide_eq_true hj, decide_eq_true hd⟩, rfl, rfl⟩

/-- Settles O2: a word is the word of an admitted operation, which is the one it decodes to. -/
theorem everyWordIsOneOperation : Obligations.EveryWordIsOneOperation := by
  intro esc w
  obtain ⟨i, hwf, hesc, rfl⟩ := exists_encode_eq esc w
  rw [decodeUndoesEncode esc i hwf hesc]
  exact ⟨rfl, hwf, hesc⟩

/-- Settles O3, by evaluating the decoder on each of the words. -/
theorem decodesWrittenOutWords : Obligations.DecodesWrittenOutWords := by
  unfold Obligations.DecodesWrittenOutWords
  decide

/-- Settles O4: the word of a byte decodes to the class of the byte. -/
theorem feedByteClasses : Obligations.FeedByteClasses := by
  intro b
  simp only [decode_feedWord]
  refine ⟨decodeFeed_true b, ?_, ?_, decodeFeed_false_plain⟩
  · rintro rfl
    exact decodeFeed_false_escape
  · rintro rfl
    exact decodeFeed_false_start

/-- Settles O5: the step performs the operation of the offered word, and exactly the reserved words are refused. -/
theorem exactlyReservedWordsAreRefused : Obligations.ExactlyReservedWordsAreRefused := by
  intro c s inp rest hpending
  rw [step_offered hpending]
  exact exec_decode_refused_iff s.esc inp.txn (s.accept inp rest)

/-- Settles O56: the third byte is the distance from the sum of the first two, modulo 256, to `0xFF`. -/
theorem commandFrameSumsToFF : Obligations.CommandFrameSumsToFF := by
  intro type payload
  have hfirst : (type ++ 0#4).toNat = type.toNat * 16 := by
    rw [BitVec.toNat_append, Nat.shiftLeft_eq]
    exact Nat.or_zero _
  have hlast : (0xFF - ((type ++ 0#4 : Byte) + payload)).toNat = 0xFF - (type.toNat * 16 + payload.toNat) % 256 := by
    rw [← hfirst]
    bv_omega
  refine ⟨_, _, _, rfl, hfirst, rfl, ?_, ?_⟩
  · rw [hfirst]
    exact hlast
  · rw [hfirst, hlast]
    omega

/-! ## The payload of a stream of bytes -/

/-- The stream bytes carry the payload values, from the given `ESC` to `ESC = 0`, with no start sentinel seen at
`ESC = 0` (`30_encoding.md` R64). -/
inductive Carries : Bool → List Byte → List Byte → Prop
  | nil : Carries false [] []
  | byte {esc : Bool} {b : Byte} {stream payload : List Byte} (hb : esc = true ∨ b.toNat ≤ 0xFD)
      (h : Carries false stream payload) : Carries esc (b :: stream) (b :: payload)
  | escape {stream payload : List Byte} (h : Carries true stream payload) :
      Carries false (escapeSentinel :: stream) payload

/-- No payload is left exactly when no stream is left. -/
theorem Carries.payload_eq_nil_iff {esc : Bool} {stream payload : List Byte} (h : Carries esc stream payload) :
    payload = [] ↔ stream = [] := by
  cases h with
  | nil | byte => simp
  | escape h => cases h; simp

/-- Legal units carry their values (`30_encoding.md` R64). -/
theorem carries_units {us : List PayloadUnit} (h : ∀ u ∈ us, u.legal) :
    Carries false (us.flatMap PayloadUnit.bytes) (us.map PayloadUnit.value) := by
  induction us with
  | nil => exact .nil
  | cons u us ih =>
    obtain ⟨hu, hus⟩ := List.forall_mem_cons.1 h
    cases u with
    | plain v => exact .byte (Or.inr hu) (ih hus)
    | escaped v => exact .escape (.byte (Or.inl rfl) (ih hus))

theorem stuffUnit_sentinel {b : Byte} (h : b = escapeSentinel ∨ b = startSentinel) : stuffUnit b = .escaped b :=
  if_pos h

theorem stuffUnit_plain {b : Byte} (h : b.toNat ≤ 0xFD) : stuffUnit b = .plain b :=
  if_neg (not_or.2 ((plain_iff b).1 h))

theorem stuffUnit_legal (b : Byte) : (stuffUnit b).legal := by
  rcases plain_or_sentinel b with hplain | hsentinel
  · rw [stuffUnit_plain hplain]
    exact hplain
  · rw [stuffUnit_sentinel hsentinel]
    trivial

@[simp] theorem stuffUnit_value (b : Byte) : (stuffUnit b).value = b := by
  unfold stuffUnit
  split <;> rfl

/-- The stuffing rule carries the frame (`30_encoding.md` R65). -/
theorem carries_stuffed (frame : List Byte) : Carries false (frame.flatMap fun b => (stuffUnit b).bytes) frame := by
  have h := carries_units (us := frame.map stuffUnit) (by simpa using fun b _ => stuffUnit_legal b)
  simpa [List.flatMap_map, Function.comp_def] using h

/-! ## One FEED step -/

section Feed
variable {s : Block c} {inp : Input c} {rest : List (Input c)} (hpending : s.pending = inp :: rest)
include hpending

theorem step_feedEscape (hesc : s.esc = false) (hword : inp.txn = feedWord escapeSentinel) :
    step ⟨c, s⟩ = .next ⟨c, (s.accept inp rest).beginStep.setEsc⟩ := by
  rw [step_offered hpending, hword, decode_feedWord, hesc, decodeFeed_false_escape]
  rfl

theorem step_feedStart (hesc : s.esc = false) (hword : inp.txn = feedWord startSentinel) :
    step ⟨c, s⟩ = .next ⟨c, (s.accept inp rest).beginStep.setWi 0⟩ := by
  rw [step_offered hpending, hword, decode_feedWord, hesc, decodeFeed_false_start]
  rfl

/-- An escaped byte or a plain one is appended, and `ESC` is 0 afterwards (`41_deframer.md` R121, R124). -/
theorem step_payload {b : Byte} (hb : s.esc = true ∨ b.toNat ≤ 0xFD) (hword : inp.txn = feedWord b) {t : Block c}
    (happend : (s.accept inp rest).beginStep.clearEsc.append b = .next t) : step ⟨c, s⟩ = .next ⟨c, t⟩ := by
  rw [step_offered hpending, hword, decode_feedWord]
  rcases hesc : s.esc with _ | _
  · have hplain : b.toNat ≤ 0xFD := hb.resolve_left (by simp [hesc])
    have hclear : (s.accept inp rest).beginStep.clearEsc = (s.accept inp rest).beginStep := by
      rw [Block.clearEsc, ← hesc]
      rfl
    rw [decodeFeed_false_plain hplain]
    exact exec_feedData_next (hclear ▸ happend)
  · rw [decodeFeed_true]
    exact exec_feedLiteral_next happend

end Feed

/-! ## A frame completed by a run -/

/-- The block that the completing append of a run hands to ON_FRAME: `WI` and `ESC` are 0 and the outputs are empty, with
the given frame buffer, inputs left and RTC value (`41_deframer.md` R125). -/
def Block.completing (s : Block c) (m : Memory) (rest : List (Input c)) (rtc : BitVec c.rtcW) : Block c :=
  { s with esc := false, wi := 0, fb := m, pending := rest, rtcIn := rtc, actOut := [], cmdOut := [], recOut := none }

/-- The run over the inputs `ins` and `last` outputs nothing until its last step, which leaves ON_FRAME of the frame. -/
def Block.CompletesFrame (s : Block c) (frame : List Byte) (ins : List (Input c)) (last : Input c)
    (rest : List (Input c)) : Prop :=
  ∃ (before : List (Block c)) (m : Memory),
    run (ins.length + 1) ⟨c, s⟩ = .visited (before.map (State.mk c) ++
      [⟨c, Block.onFrame frame (s.completing m rest last.rtc)⟩]) ∧
    before.length = ins.length ∧ ∀ t ∈ before, t.Quiet

/-- A quiet step that keeps what ON_FRAME reads of the block goes before a run that completes a frame. -/
theorem Block.CompletesFrame.of_step {s t : Block c} {frame : List Byte} {inp last : Input c} {ins rest : List (Input c)}
    (hstep : step ⟨c, s⟩ = .next ⟨c, t⟩) (hquiet : t.Quiet)
    (hkeep : ∀ m r v, t.completing m r v = s.completing m r v) (h : t.CompletesFrame frame ins last rest) :
    s.CompletesFrame frame (inp :: ins) last rest := by
  obtain ⟨before, m, hrun, hlen, hbefore⟩ := h
  refine ⟨t :: before, m, ?_, by simp [hlen], List.forall_mem_cons.2 ⟨hquiet, hbefore⟩⟩
  rw [List.length_cons, run_next hstep, hrun, hkeep]
  rfl

/-- The bytes collected after the write of an append are the ones before and the new one. -/
theorem Block.memRead_memWrite_wi (s : Block c) (b : Byte) :
    (s.memWrite s.wi b).memRead 0 (s.wi + 1) = s.memRead 0 s.wi ++ [b] := by
  have hold : ∀ k < s.wi, (s.memWrite s.wi b).fbByte k = s.fbByte k := fun k hk =>
    Block.fbByte_memWrite_ne s b hk.ne
  simpa [Block.memRead, List.range_succ] using hold

/-- The append of the last payload byte completes the frame of the bytes collected and that byte. -/
theorem completesFrame_last {s : Block c} {b : Byte} {last : Input c} {rest : List (Input c)}
    (hb : s.esc = true ∨ b.toNat ≤ 0xFD) (hwi : s.wi + 1 = c.frameLen) (hpending : s.pending = last :: rest)
    (hword : last.txn = feedWord b) : s.CompletesFrame (s.memRead 0 s.wi ++ [b]) [] last rest := by
  have hstep := step_payload hpending hb hword
    (Block.append_complete (s := (s.accept last rest).beginStep.clearEsc) b hwi)
  have hframe : (s.memWrite s.wi b).snapshot = s.memRead 0 s.wi ++ [b] := by
    rw [Block.snapshot, ← hwi, Block.memRead_memWrite_wi]
  refine ⟨[], s.fb.write s.wi b, ?_, rfl, by simp⟩
  rw [List.length_nil, run_next hstep, ← hframe]
  rfl

/-- By induction over the stream: feeding the bytes that carry the missing payload completes the frame of the bytes
collected and that payload. -/
theorem Carries.completesFrame {esc : Bool} {stream payload : List Byte} (h : Carries esc stream payload) {s : Block c}
    {ins rest : List (Input c)} {last : Input c} (hesc : s.esc = esc) (hwi : s.wi + payload.length = c.frameLen)
    (hpending : s.pending = ins ++ last :: rest) (hwords : (ins ++ [last]).map Input.txn = stream.map feedWord) :
    s.CompletesFrame (s.memRead 0 s.wi ++ payload) ins last rest := by
  induction h generalizing s ins with
  | nil => simp at hwords
  | @byte esc b stream payload hb h ih =>
    cases ins with
    | nil =>
      obtain ⟨hword, hstream⟩ : last.txn = feedWord b ∧ stream = [] := by simpa using hwords
      obtain rfl := h.payload_eq_nil_iff.2 hstream
      exact completesFrame_last (hesc ▸ hb) hwi hpending hword
    | cons inp ins =>
      obtain ⟨hword, hwords⟩ : inp.txn = feedWord b ∧ (ins ++ [last]).map Input.txn = stream.map feedWord := by
        simpa using hwords
      have hmore : payload ≠ [] := fun hnil => by simp [h.payload_eq_nil_iff.1 hnil] at hwords
      have hpartial : s.wi + 1 < c.frameLen := by
        have := List.length_pos_iff.2 hmore
        rw [List.length_cons] at hwi
        omega
      have hstep := step_payload hpending (hesc ▸ hb) hword
        (Block.append_partial (s := (s.accept inp (ins ++ last :: rest)).beginStep.clearEsc) b hpartial)
      refine .of_step hstep ⟨rfl, rfl, rfl⟩ (fun _ _ _ => rfl) ?_
      have hbytes : s.memRead 0 s.wi ++ b :: payload = (s.memWrite s.wi b).memRead 0 (s.wi + 1) ++ payload := by
        rw [Block.memRead_memWrite_wi, List.append_assoc, List.singleton_append]
      rw [hbytes]
      exact ih rfl (by simpa [Nat.add_assoc, Nat.add_comm 1] using hwi) rfl hwords
  | @escape stream payload h ih =>
    cases ins with
    | nil =>
      obtain ⟨-, rfl⟩ : last.txn = feedWord escapeSentinel ∧ stream = [] := by simpa using hwords
      cases h
    | cons inp ins =>
      obtain ⟨hword, hwords⟩ : inp.txn = feedWord escapeSentinel ∧
          (ins ++ [last]).map Input.txn = stream.map feedWord := by simpa using hwords
      refine .of_step (step_feedEscape hpending hesc hword) ⟨rfl, rfl, rfl⟩ (fun _ _ _ => rfl) ?_
      exact ih rfl hwi rfl hwords

/-- From `WI = 0` the payload is the whole frame. -/
theorem Carries.completesFrame_of_wi {stream frame : List Byte} (h : Carries false stream frame) {s : Block c}
    {ins rest : List (Input c)} {last : Input c} (hesc : s.esc = false) (hwi : s.wi = 0)
    (hlen : frame.length = c.frameLen) (hpending : s.pending = ins ++ last :: rest)
    (hwords : (ins ++ [last]).map Input.txn = stream.map feedWord) : s.CompletesFrame frame ins last rest := by
  have hrun := h.completesFrame hesc (by rw [hwi, Nat.zero_add, hlen]) hpending hwords
  rwa [hwi] at hrun

/-- Settles O22: the units carry their values, and the frame starts at `WI = 0`. -/
theorem unitsCompleteOneFrame : Obligations.UnitsCompleteOneFrame := by
  intro c s us ins rest last _ hwi hesc hlen hlegal hpending hwords
  obtain ⟨before, m, hrun, hbefore⟩ :=
    (carries_units hlegal).completesFrame_of_wi hesc hwi (by simpa using hlen) hpending hwords
  refine ⟨before, m, ?_, hbefore⟩
  rw [hrun, Block.completing, ← hwi, ← hesc]

/-- The stuffed form of a frame completes it, whatever `WI`: the start sentinel sets `WI` to 0
(`41_deframer.md` R131). -/
theorem completesFrame_stuff {s : Block c} {frame : List Byte} {ins rest : List (Input c)} {last : Input c}
    (hesc : s.esc = false) (hlen : frame.length = c.frameLen) (hframe : frame ≠ [])
    (hpending : s.pending = ins ++ last :: rest) (hwords : (ins ++ [last]).map Input.txn = (stuff frame).map feedWord) :
    s.CompletesFrame frame ins last rest := by
  have hcarries := carries_stuffed frame
  cases ins with
  | nil =>
    obtain ⟨-, hstream⟩ : last.txn = feedWord startSentinel ∧ (frame.flatMap fun b => (stuffUnit b).bytes) = [] := by
      simpa [stuff] using hwords
    exact absurd (hcarries.payload_eq_nil_iff.2 hstream) hframe
  | cons inp ins =>
    obtain ⟨hword, hwords⟩ := List.cons.inj hwords
    refine .of_step (step_feedStart hpending hesc hword) ⟨rfl, rfl, rfl⟩ (fun _ _ _ => rfl) ?_
    exact hcarries.completesFrame_of_wi hesc rfl hlen rfl hwords

theorem ne_nil_of_frameLen {frame : List Byte} (hc : c.wf) (hlen : frame.length = c.frameLen) : frame ≠ [] := by
  obtain ⟨hthree, -, -⟩ := hc
  exact List.length_pos_iff.1 (by omega)

/-- Settles O23: a sentinel byte is escaped and any other is plain, and the stuffed form completes its frame. -/
theorem stuffedFrameRoundTrips : Obligations.StuffedFrameRoundTrips := by
  refine ⟨fun b => ⟨fun hb => ⟨?_, (decode_feedWord true b).trans (decodeFeed_true b)⟩, fun hb => ?_⟩, ?_⟩
  · rw [stuffUnit_sentinel hb]
    rfl
  · have hplain := (plain_iff b).2 hb
    rw [stuffUnit_plain hplain, decode_feedWord, decodeFeed_false_plain hplain]
    exact ⟨rfl, rfl⟩
  · intro c s frame ins rest last hc hesc hlen hpending hwords
    obtain ⟨before, m, hrun, hbefore⟩ :=
      completesFrame_stuff hesc hlen (ne_nil_of_frameLen hc hlen) hpending hwords
    refine ⟨before, m, ?_, hbefore⟩
    rw [hrun, Block.completing, ← hesc]

/-! ## The SFRAME statement -/

theorem signedFrame_length {p : List Byte} (hc : c.wf) (hp : p.length = coverLen c) :
    (signedFrame c p).length = c.frameLen := by
  obtain ⟨hthree, -, -⟩ := hc
  have hcrc : ∀ order v, (crcBytes order v).length = 2 := by rintro (_ | _) _ <;> rfl
  rw [signedFrame, List.length_append, hcrc, hp, coverLen, crcLen]
  omega

/-- With exactly the stuffed form of a frame offered, every input with the same RTC value, the run over it completes the
frame. -/
theorem run_stuff {s : Block c} {frame : List Byte} {v : BitVec c.rtcW} (hesc : s.esc = false)
    (hlen : frame.length = c.frameLen) (hframe : frame ≠ [])
    (hpending : s.pending = ((stuff frame).map feedWord).map fun w => ⟨w, v⟩) :
    ∃ (before : List (Block c)) (m : Memory),
      run ((stuff frame).map feedWord).length ⟨c, s⟩ = .visited (before.map (State.mk c) ++
        [⟨c, Block.onFrame frame (s.completing m [] v)⟩]) ∧
      before.length + 1 = ((stuff frame).map feedWord).length ∧ ∀ t ∈ before, t.Quiet := by
  obtain ⟨ins, last, hsplit⟩ : ∃ ins last, s.pending = ins ++ [last] :=
    s.pending.eq_nil_or_concat'.resolve_left (by simp [hpending, stuff])
  have hwords : (ins ++ [last]).map Input.txn = (stuff frame).map feedWord := by
    rw [← hsplit, hpending, List.map_map]
    exact List.map_id _
  have hcount : ins.length + 1 = ((stuff frame).map feedWord).length := by
    rw [← hwords, List.length_map, List.length_append, List.length_singleton]
  have hrtc : last.rtc = v := by
    have hlast : last ∈ s.pending := by simp [hsplit]
    rw [hpending] at hlast
    obtain ⟨w, -, rfl⟩ := List.mem_map.1 hlast
    rfl
  obtain ⟨before, m, hrun, hbefore, hquiet⟩ := completesFrame_stuff hesc hlen hframe hsplit hwords
  rw [hcount, hrtc] at hrun
  exact ⟨before, m, hrun, by rw [hbefore, hcount], hquiet⟩

/-- Settles O54: SFRAME is the stuffed form of a frame that verifies, so the last step is the dispatch of ON_FRAME on
the link state, with the `rtc_in = 0` of a script. -/
theorem signedFrameReachesTheDriver : Obligations.SignedFrameReachesTheDriver := by
  intro c s p hc hesc hp
  have hlen := signedFrame_length hc hp
  have hverify : verify c (signedFrame c p) = true := signedFrameVerifies c p hc hp
  obtain ⟨before, m, hrun, hcount, hquiet⟩ :=
    run_stuff (s := s.loadScript [.sframe p]) (v := 0) hesc hlen (ne_nil_of_frameLen hc hlen) (List.append_nil _)
  have hlink : ((s.loadScript [.sframe p]).completing m [] 0).ls = s.ls := rfl
  refine ⟨before, _, hrun, hcount, hquiet, Block.onFrame_wi _ _, Block.onFrame_esc _ _,
    Block.onFrame_pending _ _, fun hls => ?_, fun hls => ?_⟩
  · rw [Block.onFrame_init hverify (hlink.trans hls)]
    exact ⟨rfl, rfl, rfl, rfl⟩
  · rw [Block.onFrame_read hverify (hlink.trans hls)]
    exact ⟨hls, rfl, rfl, rfl⟩

end Sys2Proof.Machine

/-! PROOFS. The CRC-16 validator (`40_crc16.md`): the nibble fold in exact arithmetic, the bit-serial CRC, linearity,
single-byte errors, the residue under BE, and the running CRC. -/

namespace Sys2Proof.Machine

variable {c : Config}

/-! ## CRC_STEP and CRC16 -/

@[simp] theorem crc16_nil : crc16 [] = 0x0000 := rfl

theorem crc16_concat (d : List Byte) (b : Byte) : crc16 (d ++ [b]) = crcStep (crc16 d) b :=
  List.foldl_concat crcStep crcInit b d

/-- A value of 8 bits and its own upper nibble fold to 8 bits. -/
theorem nibbleFold_lt {x : Nat} (h : x < 2 ^ 8) : x ^^^ (x / 16) < 2 ^ 8 :=
  Nat.xor_lt_two_pow h (by omega)

/-- Settles O26: each shift of the model's 16-bit values is a product or quotient of natural numbers, and the cut to
16 bits moves out of the exclusive or. -/
theorem crcFoldsNibbles : Obligations.CrcFoldsNibbles := by
  refine ⟨fun crc b => ?_, crc16_nil, crc16_concat⟩
  intro x1 x2
  have hx1 : x1 < 2 ^ 8 := Nat.xor_lt_two_pow (by omega) b.isLt
  have hx2 : x2 < 2 ^ 8 := nibbleFold_lt hx1
  have hb : b.toNat % 2 ^ 16 = b.toNat := Nat.mod_eq_of_lt (by omega)
  have hcut : x2 % 2 ^ 16 = x2 := Nat.mod_eq_of_lt (by omega)
  refine ⟨hx1, hx2, ?_⟩
  change _ = _ % 2 ^ 16
  simp only [crcStep, BitVec.toNat_xor, BitVec.toNat_shiftLeft, BitVec.toNat_ushiftRight, BitVec.toNat_setWidth,
    Nat.shiftRight_eq_div_pow, Nat.shiftLeft_eq, Nat.xor_mod_two_pow, hb, hcut]
  rfl

/-- CRC_STEP by the two bytes of the accumulator: the low byte moves up, the high byte folds with the input. -/
theorem crcStep_append (hi lo b : Byte) : crcStep (hi ++ lo) b = lo ++ 0#8 ^^^ crcStep 0 (hi ^^^ b) := by
  have hshift : (hi ++ lo : Crc) <<< 8 = lo ++ 0#8 := by
    rw [BitVec.shiftLeft_eq_concat_of_lt (by decide)]
    exact congrArg (· ++ 0#8) BitVec.extractLsb'_append_eq_right
  have hhigh : ((hi ++ lo : Crc) >>> 8).setWidth 8 = hi := BitVec.extractLsb'_append_eq_left
  rw [crcStep_fold, hshift, hhigh]

/-- CRC_STEP of the high byte of the accumulator cancels it. -/
theorem crcStep_append_same (hi lo : Byte) : crcStep (hi ++ lo) hi = lo ++ 0#8 := by
  have hzero : crcStep 0 0#8 = 0#16 := rfl
  rw [crcStep_append, BitVec.xor_self, hzero, BitVec.xor_zero]

/-! ## The bit-serial CRC -/

/-- One bit of the bit-serial CRC (`40_crc16.md` R104). -/
def crcSerialBit (r : Crc) : Crc := if r.msb then (r <<< 1) ^^^ 0x1021 else r <<< 1

theorem crcSerialBits_succ (n : Nat) (r : Crc) : crcSerialBits (n + 1) r = crcSerialBits n (crcSerialBit r) := rfl

theorem crcSerialBit_xor (a b : Crc) : crcSerialBit (a ^^^ b) = crcSerialBit a ^^^ crcSerialBit b := by
  simp only [crcSerialBit, BitVec.msb_xor, BitVec.shiftLeft_xor_distrib]
  cases a.msb <;> cases b.msb
  · rfl
  · exact BitVec.xor_assoc _ _ _
  · simp only [Bool.xor_false, if_true, Bool.false_eq_true, if_false]
    ac_rfl
  · simp [xor4]

/-- The bit-serial CRC of a byte is linear in the register. -/
theorem crcSerialBits_xor (n : Nat) (a b : Crc) :
    crcSerialBits n (a ^^^ b) = crcSerialBits n a ^^^ crcSerialBits n b := by
  induction n generalizing a b with
  | zero => rfl
  | succ n ih => simp only [crcSerialBits_succ, crcSerialBit_xor, ih]

/-- Eight shifts move a low byte up, unreduced. -/
theorem crcSerialBits_low : ∀ lo : Byte, crcSerialBits 8 (0#8 ++ lo) = lo ++ 0#8 := by decide

/-- Eight shifts reduce a high byte as CRC_STEP does from 0. -/
theorem crcSerialBits_high : ∀ hi : Byte, crcSerialBits 8 (hi ++ 0#8) = crcStep 0 hi := by decide

/-- One byte of the bit-serial CRC is CRC_STEP: by linearity, the two bytes of the register apart. -/
theorem crcSerialBits_eq_crcStep (r : Crc) (b : Byte) : crcSerialBits 8 (r ^^^ (b ++ 0#8 : Crc)) = crcStep r b := by
  rw [← crcHigh_append_crcLow r]
  generalize r.extractLsb' 8 8 = hi
  generalize r.extractLsb' 0 8 = lo
  have hbytes : ∀ x y z w : Byte, x ++ y ^^^ z ++ w = (x ^^^ z) ++ (y ^^^ w) := fun _ _ _ _ => BitVec.xor_append
  have hsplit : hi ++ lo ^^^ b ++ 0#8 = 0#8 ++ lo ^^^ (hi ^^^ b) ++ 0#8 := by rw [hbytes, hbytes, BitVec.zero_xor]
  rw [hsplit, crcSerialBits_xor, crcSerialBits_low, crcSerialBits_high, crcStep_append]

/-- Settles O27: both fold one byte at a time from 0, by the same step. -/
theorem crcEqualsTheBitSerialCrc : Obligations.CrcEqualsTheBitSerialCrc := by
  refine ⟨fun d => ?_, by decide⟩
  rw [crcSerial, crc16, crcInit]
  simp only [crcSerialBits_eq_crcStep]

/-! ## Linearity -/

/-- Folding CRC_STEP is linear in the start values and the bytes together. -/
theorem crcFold_xor {a b : List Byte} (h : a.length = b.length) (u v : Crc) :
    (List.zipWith (fun x y => x ^^^ y) a b).foldl crcStep (u ^^^ v) = a.foldl crcStep u ^^^ b.foldl crcStep v := by
  induction a generalizing b u v with
  | nil =>
    obtain rfl := List.length_eq_zero_iff.1 h.symm
    rfl
  | cons x a ih =>
    cases b with
    | nil => cases h
    | cons y b =>
      simp only [List.zipWith_cons_cons, List.foldl_cons, crcStep_xor]
      exact ih (Nat.succ.inj h) _ _

/-- Settles O28: the initial value 0 is the exclusive or of itself with itself. -/
theorem crcIsLinear : Obligations.CrcIsLinear :=
  fun _ _ h => crcFold_xor h crcInit crcInit

/-! ## A frame as its covered bytes and its stored CRC -/

/-- Any two bytes are the bytes of a stored CRC. -/
theorem exists_eq_crcBytes (order : ByteOrder) {q : List Byte} (h : q.length = 2) : ∃ w, q = crcBytes order w := by
  obtain ⟨x, y, rfl⟩ := List.length_eq_two.1 h
  have hbytes : ∀ hi lo : Byte,
      (hi ++ lo : Crc).extractLsb' 8 8 = hi ∧ (hi ++ lo : Crc).extractLsb' 0 8 = lo := fun _ _ =>
    ⟨BitVec.extractLsb'_append_eq_left, BitVec.extractLsb'_append_eq_right⟩
  cases order with
  | le => exact ⟨y ++ x, by simp only [crcBytes, hbytes]⟩
  | be => exact ⟨x ++ y, by simp only [crcBytes, hbytes]⟩

@[simp] theorem crcBytes_length (order : ByteOrder) (w : Crc) : (crcBytes order w).length = 2 := by
  cases order <;> rfl

/-- A frame is the bytes the CRC covers and the bytes of its stored CRC. -/
theorem exists_eq_append_crcBytes {cf : List Byte} (hc : c.wf) (h : cf.length = c.frameLen) :
    ∃ p w, p.length + 2 = c.frameLen ∧ cf = p ++ crcBytes c.crcOrder w := by
  obtain ⟨hthree, -, -⟩ := hc
  obtain ⟨w, hw⟩ := exists_eq_crcBytes c.crcOrder (q := cf.drop (c.frameLen - 2)) (by rw [List.length_drop]; omega)
  refine ⟨cf.take (c.frameLen - 2), w, by rw [List.length_take]; omega, ?_⟩
  rw [← hw, List.take_append_drop]

/-- VERIFY compares the CRC of the covered bytes with the stored one (`40_crc16.md` R103). -/
theorem verify_append_crcBytes {p : List Byte} (h : p.length + 2 = c.frameLen) (w : Crc) :
    verify c (p ++ crcBytes c.crcOrder w) = true ↔ crc16 p = w := by
  have hcovered : covered c (p ++ crcBytes c.crcOrder w) = p := List.take_left' (by rw [coverLen, crcLen]; omega)
  rw [verify, hcovered, storedCrc_append_crcBytes h, beq_iff_eq]

/-! ## Single-byte errors -/

/-- Folding CRC_STEP over the same bytes tells start values apart. -/
theorem crcFold_inj {d : List Byte} {u v : Crc} (h : d.foldl crcStep u = d.foldl crcStep v) : u = v := by
  induction d generalizing u v with
  | nil => exact h
  | cons b d ih => exact crcStep_inj_crc (ih h)

/-- The fold with one byte replaced is the same only if the byte is. -/
theorem crcFold_set_inj {d : List Byte} {i : Nat} {v : Byte} {u : Crc}
    (h : (d.set i v).foldl crcStep u = d.foldl crcStep u) : d.set i v = d := by
  induction d generalizing i u with
  | nil => rfl
  | cons b d ih =>
    cases i with
    | zero => exact congrArg (· :: d) (crcStep_inj_byte (crcFold_inj h))
    | succ i => exact congrArg (b :: ·) (ih h)

/-- A valid frame stays valid under the replacement of one byte only if it stays the same. -/
theorem set_eq_of_verify {p : List Byte} {w : Crc} {i : Nat} {v : Byte} (hp : p.length + 2 = c.frameLen)
    (hvalid : verify c (p ++ crcBytes c.crcOrder w) = true)
    (hset : verify c ((p ++ crcBytes c.crcOrder w).set i v) = true) :
    (p ++ crcBytes c.crcOrder w).set i v = p ++ crcBytes c.crcOrder w := by
  have hcrc : crc16 p = w := (verify_append_crcBytes hp w).1 hvalid
  rcases Nat.lt_or_ge i p.length with hcovered | hstored
  · rw [List.set_append_left i v hcovered] at hset ⊢
    have hcrc' : crc16 (p.set i v) = w := (verify_append_crcBytes (by rwa [List.length_set]) w).1 hset
    rw [crcFold_set_inj (hcrc'.trans hcrc.symm)]
  · rw [List.set_append_right i v hstored] at hset ⊢
    obtain ⟨w', hw'⟩ := exists_eq_crcBytes c.crcOrder (q := (crcBytes c.crcOrder w).set (i - p.length) v) (by simp)
    rw [hw'] at hset ⊢
    rw [← (verify_append_crcBytes hp w').1 hset, hcrc]

theorem frameByte_set_same {cf : List Byte} {i : Nat} (h : i < cf.length) (v : Byte) : frameByte (cf.set i v) i = v := by
  simp [frameByte, h]

/-- Settles O29: a covered byte decides the CRC, with the other bytes given, and a crc byte decides the stored one. -/
theorem oneChangedByteIsDetected : Obligations.OneChangedByteIsDetected := by
  intro c cf i v hc hlen hvalid hi hv
  refine Bool.eq_false_iff.2 fun hset => hv ?_
  have hsame : cf.set i v = cf := by
    obtain ⟨p, w, hp, rfl⟩ := exists_eq_append_crcBytes hc hlen
    exact set_eq_of_verify hp hvalid hset
  rw [← frameByte_set_same (hlen ▸ hi) v, hsame]

/-! ## The residue under BE -/

/-- Feeding CRC_STEP the two bytes of a value, high byte first, gives 0 exactly from that value. -/
theorem crcStep_crcStep_eq_zero_iff (u w : Crc) :
    crcStep (crcStep u (w.extractLsb' 8 8)) (w.extractLsb' 0 8) = 0 ↔ u = w := by
  have hself : crcStep (crcStep w (w.extractLsb' 8 8)) (w.extractLsb' 0 8) = 0 := by
    have hfirst := crcStep_append_same (w.extractLsb' 8 8) (w.extractLsb' 0 8)
    rw [crcHigh_append_crcLow] at hfirst
    rw [hfirst, crcStep_append_same]
    rfl
  refine ⟨fun h => crcStep_inj_crc (crcStep_inj_crc (h.trans hself.symm)), ?_⟩
  rintro rfl
  exact hself

/-- Settles O30: the fold over the two stored bytes takes the CRC of the covered bytes to 0 exactly when it is the
stored one. -/
theorem validBigEndianFrameHasZeroResidue : Obligations.ValidBigEndianFrameHasZeroResidue := by
  intro c cf hc horder hlen
  obtain ⟨p, w, hp, rfl⟩ := exists_eq_append_crcBytes hc hlen
  have hfold : crc16 (p ++ crcBytes c.crcOrder w) =
      crcStep (crcStep (crc16 p) (w.extractLsb' 8 8)) (w.extractLsb' 0 8) := by
    rw [horder]
    exact List.foldl_append
  rw [verify_append_crcBytes hp, hfold, crcStep_crcStep_eq_zero_iff]

/-! ## The running CRC -/

/-- A write at `WI` leaves the bytes below it. -/
theorem Block.memRead_memWrite_of_le (s : Block c) (b : Byte) {n : Nat} (h : n ≤ s.wi) :
    (s.memWrite s.wi b).memRead 0 n = s.memRead 0 n := by
  refine List.map_congr_left fun k hk => Block.fbByte_memWrite_ne s b ?_
  have := List.mem_range.1 hk
  omega

/-- With no byte collected the running CRC is its initial value. -/
theorem Block.runningCrcOk_of_wi_zero {s : Block c} (h : s.wi = 0) : s.RunningCrcOk crcInit := by
  rw [Block.RunningCrcOk, h, Nat.zero_min]
  rfl

/-- The running CRC takes in the byte an append stores (`40_crc16.md` R105). -/
theorem Block.RunningCrcOk.stored {s : Block c} {running : Crc} (h : s.RunningCrcOk running) (b : Byte) :
    (s.stored b).RunningCrcOk (crcRunAppend c s.wi running b) := by
  change _ = crc16 ((s.memWrite s.wi b).memRead 0 (min (s.wi + 1) (coverLen c)))
  rw [h, crcRunAppend]
  split_ifs with hwi
  · rw [Nat.min_eq_left hwi.le, Nat.min_eq_left hwi, Block.memRead_memWrite_wi, crc16_concat]
  · rw [Nat.min_eq_right (by omega), Nat.min_eq_right (by omega), Block.memRead_memWrite_of_le s b (by omega)]

/-- APPEND keeps the running CRC, which a completion clears. -/
theorem Block.RunningCrcOk.append {s t : Block c} {b : Byte} {running : Crc} (h : s.RunningCrcOk running)
    (happend : s.append b = .next t) :
    t.RunningCrcOk (if s.wi + 1 = c.frameLen then crcInit else crcRunAppend c s.wi running b) := by
  rcases Block.append_next happend with ⟨hwi, rfl⟩ | ⟨hwi, rfl⟩
  · rw [if_neg hwi.ne]
    exact h.stored b
  · rw [if_pos hwi]
    exact Block.runningCrcOk_of_wi_zero (Block.onFrame_wi _ _)

/-- Every operation keeps the running CRC: an append takes its byte in, and `WI = 0` goes with a cleared value. -/
theorem exec_runningCrcOk {s t : Block c} {i : Instr} {running : Crc} (h : s.RunningCrcOk running)
    (hexec : exec i ⟨c, s⟩ = .next ⟨c, t⟩) : t.RunningCrcOk (crcRunAfter i s running) := by
  obtain ⟨_, ⟨⟩, ⟨b, rfl, hk⟩ | ⟨b, rfl, hk⟩ | ⟨rfl, rfl⟩ | ⟨rfl, rfl⟩ | ⟨rfl, rfl⟩ | ⟨rfl, rfl⟩ | ⟨rfl, rfl⟩⟩ :=
    exec_next hexec
  · exact Block.RunningCrcOk.append (s := s.beginStep.clearEsc) h hk
  · exact Block.RunningCrcOk.append (s := s.beginStep) h hk
  · exact h
  · exact Block.runningCrcOk_of_wi_zero rfl
  · exact h
  · exact h
  · exact Block.runningCrcOk_of_wi_zero rfl

/-- The covered bytes of the frame an append completes are the ones collected below `COVER_LEN`. -/
theorem Block.covered_frameWith {s : Block c} (hwi : coverLen c ≤ s.wi) (b : Byte) :
    covered c (s.frameWith b) = s.memRead 0 (coverLen c) := by
  have hmin : min (coverLen c) c.frameLen = coverLen c := Nat.min_eq_left (Nat.sub_le _ _)
  rw [← Block.memRead_memWrite_of_le s b hwi, covered, Block.frameWith, Block.snapshot, Block.memRead, Block.memRead,
    ← List.map_take, List.take_range, hmin]

/-- Settles O31: every operation keeps the running CRC; the byte that completes the frame is a crc byte, so the covered
bytes are complete before it. -/
theorem runningCrcIsTheFrameCrc : Obligations.RunningCrcIsTheFrameCrc := by
  refine ⟨fun _ _ => Block.runningCrcOk_of_wi_zero, fun _ _ _ _ _ _ h hexec => exec_runningCrcOk h hexec, ?_⟩
  rintro c s b running ⟨hthree, -, -⟩ hwi h
  have hcover : coverLen c ≤ s.wi := by
    rw [coverLen, crcLen]
    omega
  rw [crcRunAppend, if_neg (by omega), Block.covered_frameWith hcover, h, Nat.min_eq_right hcover]

end Sys2Proof.Machine

/-! PROOFS. The de-framer (`41_deframer.md`): the full next state of each FEED operation, when a step has an action, and
the resync after a start sentinel. -/

namespace Sys2Proof.Machine

variable {c : Config}

/-! ## The operations that store nothing -/

theorem exec_feedEscape (s : Block c) : exec .feedEscape ⟨c, s⟩ = .next ⟨c, s.beginStep.setEsc⟩ := rfl

theorem exec_feedStart (s : Block c) : exec .feedStart ⟨c, s⟩ = .next ⟨c, s.beginStep.setWi 0⟩ := rfl

theorem exec_linkInit (s : Block c) : exec .linkInit ⟨c, s⟩ = .next ⟨c, s.beginStep.setLs .init⟩ := rfl

theorem exec_linkRead (s : Block c) : exec .linkRead ⟨c, s⟩ = .next ⟨c, s.beginStep.setLs .read⟩ := rfl

theorem Block.setWi_eq_self {s : Block c} {n : Nat} (h : s.wi = n) : s.setWi n = s := by
  subst h
  rfl

/-- Settles O18: the next state of each of the four operations is one register write after the outputs are emptied. -/
theorem otherOperationsStoreNothing : Obligations.OtherOperationsStoreNothing := by
  intro c s t i hi h
  rcases hi with rfl | rfl | rfl | rfl
  case' inl => cases (exec_feedEscape s).symm.trans h
  case' inr.inl => cases (exec_feedStart s).symm.trans h
  case' inr.inr.inl => cases (exec_linkInit s).symm.trans h
  case' inr.inr.inr => cases (exec_linkRead s).symm.trans h
  all_goals exact ⟨fun _ => rfl, fun _ => rfl, rfl, rfl, rfl, rfl, rfl, rfl, rfl, rfl, rfl, rfl⟩

/-- Settles O12: the operation sets `ESC` after the outputs are emptied, and the word of the escape sentinel is decoded to
it; with `ESC = 1` every FEED byte is literal. -/
theorem feedEscapeSetsEsc : Obligations.FeedEscapeSetsEsc := by
  refine fun c s => ⟨exec_feedEscape s, fun inp rest hpending hesc hword => ⟨?_, fun b => ?_⟩⟩
  · have hsentinel : inp.txn = feedWord escapeSentinel := hword.trans (by decide)
    exact step_feedEscape hpending hesc hsentinel
  · exact (decode_feedWord true b).trans (decodeFeed_true b)

/-- Settles O13: the operation sets `WI` to 0 after the outputs are emptied, and the word of the start sentinel is decoded
to it. -/
theorem feedStartDiscardsThePartialFrame : Obligations.FeedStartDiscardsThePartialFrame := by
  refine fun c s => ⟨exec_feedStart s, fun hwi => ?_, fun inp rest hpending hesc hword => ?_⟩
  · have hsame : s.beginStep.setWi 0 = s.beginStep := Block.setWi_eq_self hwi
    rw [exec_feedStart, hsame]
    rfl
  · have hsentinel : inp.txn = feedWord startSentinel := hword.trans (by decide)
    exact step_feedStart hpending hesc hsentinel

/-! ## The two appending operations -/

/-- Settles O14: FEED_DATA is its APPEND from empty outputs, below the last index and at it. -/
theorem feedDataAppends : Obligations.FeedDataAppends := fun _ s b =>
  ⟨fun hpartial => exec_feedData_next (Block.append_partial (s := s.beginStep) b hpartial),
    fun hlast => exec_feedData_next (Block.append_complete (s := s.beginStep) b hlast)⟩

/-- Settles O15: FEED_LITERAL is its APPEND from empty outputs and `ESC = 0`, below the last index and at it. -/
theorem feedLiteralAppends : Obligations.FeedLiteralAppends := fun _ s b =>
  ⟨fun hpartial => exec_feedLiteral_next (Block.append_partial (s := s.beginStep.clearEsc) b hpartial),
    fun hlast => exec_feedLiteral_next (Block.append_complete (s := s.beginStep.clearEsc) b hlast)⟩

/-! ## The actions of a step -/

/-- ON_FRAME emits exactly one action, whatever its case (`60_exceptions.md` R204). -/
theorem Block.onFrame_actOut_length (cf : List Byte) (s : Block c) :
    (s.onFrame cf).actOut.length = s.actOut.length + 1 := by
  apply s.onFrame_of cf (P := fun t => t.actOut.length = s.actOut.length + 1) <;> simp

theorem Block.append_actOut_length {s t : Block c} {b : Byte} (h : s.append b = .next t) :
    t.actOut.length = s.actOut.length + if s.wi + 1 = c.frameLen then 1 else 0 := by
  rcases Block.append_next h with ⟨hpartial, rfl⟩ | ⟨hlast, rfl⟩
  · rw [if_neg hpartial.ne]
    rfl
  · rw [if_pos hlast]
    exact Block.onFrame_actOut_length _ ((s.memWrite s.wi b).setWi 0)

theorem completes_of_append {i : Instr} {b : Byte} (hi : appendedByte i = some b) (s : Block c) :
    completes i s = true ↔ s.wi + 1 = c.frameLen := by
  simp [completes, hi]

/-- An operation emits one action if it completes a frame and none otherwise. -/
theorem exec_actOut_length {s t : Block c} {i : Instr} (h : exec i ⟨c, s⟩ = .next ⟨c, t⟩) :
    t.actOut.length = if completes i s then 1 else 0 := by
  rcases exec_cases h with ⟨b, e, hi, hk⟩ | ⟨rfl, rfl⟩ | ⟨rfl, rfl⟩ | ⟨rfl, rfl⟩ | ⟨rfl, rfl⟩ | ⟨rfl, rfl⟩
  case inl =>
    have hlen : t.actOut.length = 0 + if s.wi + 1 = c.frameLen then 1 else 0 := Block.append_actOut_length hk
    simp [hlen, completes_of_append hi]
  all_goals rfl

/-- Settles O20: accepting the input leaves `WI`, and the operation of its word emits the action of its completion. -/
theorem actionsComeOnlyAtCompletion : Obligations.ActionsComeOnlyAtCompletion := by
  intro c s t h
  obtain ⟨inp, rest, hpending, hexec⟩ := step_next h
  exact ⟨inp, rest, hpending, (exec_actOut_length hexec :)⟩

/-! ## Resync -/

/-- A start sentinel before the stuffed form of a frame changes nothing: the frame's own start sentinel sets `WI` to 0
again (`41_deframer.md` R130). -/
theorem completesFrame_startSentinel_stuff {s : Block c} {frame : List Byte} {ins rest : List (Input c)} {last : Input c}
    (hesc : s.esc = false) (hlen : frame.length = c.frameLen) (hframe : frame ≠ [])
    (hpending : s.pending = ins ++ last :: rest)
    (hwords : (ins ++ [last]).map Input.txn = feedWord startSentinel :: (stuff frame).map feedWord) :
    s.CompletesFrame frame ins last rest := by
  cases ins with
  | nil => simp [stuff] at hwords
  | cons inp ins =>
    obtain ⟨hword, hwords⟩ := List.cons.inj hwords
    refine .of_step (step_feedStart hpending hesc hword) ⟨rfl, rfl, rfl⟩ (fun _ _ _ => rfl) ?_
    exact completesFrame_stuff hesc hlen hframe rfl hwords

/-- With `ESC = 1` any byte is appended: short of a completion it is stored, and `WI` moves on
(`41_deframer.md` R121). -/
theorem step_escaped_partial {s : Block c} {inp : Input c} {rest : List (Input c)} {b : Byte}
    (hpending : s.pending = inp :: rest) (hesc : s.esc = true) (hword : inp.txn = feedWord b)
    (hwi : s.wi + 1 < c.frameLen) : step ⟨c, s⟩ = .next ⟨c, (s.accept inp rest).beginStep.clearEsc.stored b⟩ :=
  step_payload hpending (Or.inl hesc) hword (Block.append_partial b hwi)

/-- Settles O24: a `0xFF` and the bytes of a frame are its stuffed form, and a `0xFF` before the stuffed form goes before
a run that completes the frame; with `ESC = 1` the `0xFF` is stored. -/
theorem resyncDeliversTheNextFrame : Obligations.ResyncDeliversTheNextFrame := by
  refine ⟨?_, fun c s inp rest hwi hesc hpending hword => ?_⟩
  · intro c s frame ins rest last hc hesc hlen hpending hwords
    have hframe := ne_nil_of_frameLen hc hlen
    have hcompletes : s.CompletesFrame frame ins last rest := by
      rcases hwords with hbare | hstuffed
      · exact completesFrame_stuff hesc hlen hframe hpending hbare
      · exact completesFrame_startSentinel_stuff hesc hlen hframe hpending hstuffed
    obtain ⟨before, m, hrun, hbefore⟩ := hcompletes
    refine ⟨before, m, ?_, hbefore⟩
    rw [hrun, Block.completing, ← hesc]
  · exact ⟨_, step_escaped_partial hpending hesc hword hwi, rfl, Memory.read_write_same _ _ _, rfl, rfl, rfl⟩

end Sys2Proof.Machine

/-! PROOFS. The link state machine (`42_link_fsm.md`): the dispatch of a completed frame, the transitions of `LS`, and
runs whose words hold no LINK_INIT and no RESET. -/

namespace Sys2Proof.Machine

variable {c : Config}

/-! ## A completed frame -/

/-- The block that the completing append of a byte hands to ON_FRAME, with the given `ESC`: the byte is stored, `WI` is 0
and the outputs are empty (`41_deframer.md` R125). -/
def Block.completed (s : Block c) (b : Byte) (esc : Bool) : Block c :=
  { s.completing (s.fb.write s.wi b) s.pending s.rtcIn with esc := esc }

/-- The completing append hands the frame to ON_FRAME; `ESC` is then 0 if the row of the operation admits the `ESC` it
started with. -/
theorem exec_completing {s : Block c} {i : Instr} {b : Byte} (hi : appendedByte i = some b)
    (hwi : s.wi + 1 = c.frameLen) : ∃ e, (i.escOk s.esc = true → e = false) ∧
      exec i ⟨c, s⟩ = .next ⟨c, Block.onFrame (s.frameWith b) (s.completed b e)⟩ := by
  cases i with
  | feedLiteral v =>
    cases hi
    exact ⟨false, fun _ => rfl, exec_feedLiteral_next (Block.append_complete (s := s.beginStep.clearEsc) b hwi)⟩
  | feedData v =>
    cases hi
    exact ⟨s.esc, by simp [Instr.escOk], exec_feedData_next (Block.append_complete (s := s.beginStep) b hwi)⟩
  | _ => cases hi

/-- From the `ESC` of its row the completing append hands the frame to ON_FRAME with `ESC = 0`. -/
theorem exec_completes {s : Block c} {i : Instr} {b : Byte} (hi : appendedByte i = some b)
    (hesc : i.escOk s.esc = true) (hwi : s.wi + 1 = c.frameLen) :
    exec i ⟨c, s⟩ = .next ⟨c, Block.onFrame (s.frameWith b) (s.completed b false)⟩ := by
  obtain ⟨e, he, hexec⟩ := exec_completing hi hwi
  obtain rfl := he hesc
  exact hexec

/-- Settles O34: ON_FRAME checks the CRC before it looks at `LS`. -/
theorem badCrcDiscardsTheFrame : Obligations.BadCrcDiscardsTheFrame := by
  intro c s i b hi hesc hwi hbad
  rw [exec_completes hi hesc hwi, Block.onFrame_bad hbad]
  rfl

/-- Settles O35: the dispatch of ON_FRAME in INIT is HANDSHAKE. -/
theorem handshakeTakesTheEpoch : Obligations.HandshakeTakesTheEpoch := by
  intro c s i b hi hesc hwi hverify hls
  rw [exec_completes hi hesc hwi, Block.onFrame_init hverify (s := s.completed b false) hls]
  rfl

/-- Settles O36: the dispatch of ON_FRAME in READ is DELIVER, whose record is PARSE of the frame. -/
theorem dataFrameIsDelivered : Obligations.DataFrameIsDelivered := by
  intro c s i b hi hesc hwi hverify hls
  rw [exec_completes hi hesc hwi, Block.onFrame_read hverify (s := s.completed b false) hls]
  rfl

/-- Settles O37: the dispatch of ON_FRAME in the two unknown states is BADSTATE. -/
theorem unknownStateDiscardsTheFrame : Obligations.UnknownStateDiscardsTheFrame := by
  intro c s i b hi hesc hwi hverify hls
  rw [exec_completes hi hesc hwi, Block.onFrame_undef hverify (s := s.completed b false) hls]
  rfl

/-! ## The two host transactions on the link -/

/-- A host transaction with data not 0 is refused (`30_encoding.md` R62). -/
theorem exec_decode_data_refused (esc : Bool) {k : BitVec 3} {d : Byte} (hk : 1 ≤ k.toNat) (hd : d ≠ 0) (t : State) :
    exec (decode esc (mkTxn k d)) t = .refused .reservedTxn :=
  (exec_decode_refused_iff esc (mkTxn k d) t.blk).2 (Or.inr (by simpa using ⟨hk, hd⟩))

/-- Settles O38: the operation is one register write after the outputs are emptied, and `0x100` is its word. -/
theorem linkInitWritesOnlyTheLinkState : Obligations.LinkInitWritesOnlyTheLinkState := fun _ s =>
  ⟨exec_linkInit s, decodeUndoesEncode s.esc .linkInit rfl rfl,
    fun _ hd t => exec_decode_data_refused s.esc (by decide) hd t⟩

/-- Settles O39: the operation is one register write after the outputs are emptied, and `0x200` is its word. -/
theorem linkReadWritesOnlyTheLinkState : Obligations.LinkReadWritesOnlyTheLinkState := fun _ s =>
  ⟨exec_linkRead s, decodeUndoesEncode s.esc .linkRead rfl rfl,
    fun _ hd t => exec_decode_data_refused s.esc (by decide) hd t⟩

/-! ## The transitions of the link state -/

section Exec
variable {s t : Block c} {i : Instr} (h : exec i ⟨c, s⟩ = .next ⟨c, t⟩)
include h

/-- A completing operation leaves what ON_FRAME makes of the frame. -/
theorem exec_eq_onFrame (hcompletes : completes i s = true) : ∃ b e, appendedByte i = some b ∧
    t = Block.onFrame (s.frameWith b) (s.completed b e) := by
  obtain ⟨hbyte, -⟩ := Bool.and_eq_true_iff.1 hcompletes
  obtain ⟨b, hi⟩ := Option.isSome_iff_exists.1 hbyte
  obtain ⟨e, -, hexec⟩ := exec_completing hi ((completes_of_append hi s).1 hcompletes)
  cases h.symm.trans hexec
  exact ⟨b, e, hi, rfl⟩

/-- An operation that completes no frame has no output, and only the two link transactions and RESET write `LS`
(`42_link_fsm.md` R146). -/
theorem exec_of_not_completes (hcompletes : completes i s = false) : t.Quiet ∧
    t.ls = (if i = .linkInit then .init else if i = .linkRead then .read
            else if i = .reset then c.lsReset else s.ls) := by
  rcases exec_cases h with ⟨b, e, hi, hk⟩ | ⟨rfl, rfl⟩ | ⟨rfl, rfl⟩ | ⟨rfl, rfl⟩ | ⟨rfl, rfl⟩ | ⟨rfl, rfl⟩
  case inl =>
    have hpartial : s.wi + 1 ≠ c.frameLen := fun hwi =>
      Bool.false_ne_true (hcompletes.symm.trans ((completes_of_append hi s).2 hwi))
    obtain rfl := Block.append_eq_stored hk hpartial
    have hother : i ≠ .linkInit ∧ i ≠ .linkRead ∧ i ≠ .reset := by
      refine ⟨?_, ?_, ?_⟩ <;> rintro rfl <;> cases hi
    obtain ⟨hinit, hread, hreset⟩ := hother
    rw [if_neg hinit, if_neg hread, if_neg hreset]
    exact ⟨⟨rfl, rfl, rfl⟩, rfl⟩
  all_goals exact ⟨⟨rfl, rfl, rfl⟩, rfl⟩

/-- A handshake leads from INIT to READ (`42_link_fsm.md` R141). -/
theorem exec_shookHands (hshake : t.shookHands = true) : s.ls = .init ∧ t.ls = .read := by
  rcases hcompletes : completes i s
  · obtain ⟨⟨hact, -, -⟩, -⟩ := exec_of_not_completes h hcompletes
    simp [hact] at hshake
  · obtain ⟨b, e, -, rfl⟩ := exec_eq_onFrame h hcompletes
    rcases Block.onFrame_cases (s.frameWith b) (s.completed b e) with
      ⟨_, heq⟩ | ⟨_, hls, heq⟩ | ⟨_, _, heq⟩ | ⟨_, _, heq⟩ <;> rw [heq] at hshake ⊢
    case inr.inl => exact ⟨hls, rfl⟩
    all_goals exact absurd hshake Bool.false_ne_true

end Exec

/-- Settles O40: a completion is one of the four cases of ON_FRAME, and any other operation is quiet. -/
theorem linkStateTransitions : Obligations.LinkStateTransitions := by
  refine fun c s t i h => ⟨fun b hi hcompletes => ?_, exec_of_not_completes h⟩
  obtain ⟨b', e, hi', rfl⟩ := exec_eq_onFrame h hcompletes
  obtain rfl : b = b' := Option.some.inj (hi.symm.trans hi')
  refine ⟨fun hbad => ?_, fun hverify => ⟨fun hls => ?_, fun hls => ?_, fun hls => ?_⟩⟩
  · rw [Block.onFrame_bad hbad]
    exact ⟨rfl, rfl, rfl, rfl⟩
  · rw [Block.onFrame_init hverify (s := s.completed b e) hls]
    exact ⟨rfl, rfl, rfl, rfl, rfl⟩
  · rw [Block.onFrame_read hverify (s := s.completed b e) hls]
    exact ⟨hls, rfl, rfl, rfl⟩
  · rw [Block.onFrame_undef hverify (s := s.completed b e) hls]
    exact ⟨rfl, rfl, rfl, rfl⟩

/-- Without LINK_INIT and RESET an operation leaves `LS` or sets it to READ (`42_link_fsm.md` R146). -/
theorem exec_ls_same_or_read {s t : Block c} {i : Instr} (h : exec i ⟨c, s⟩ = .next ⟨c, t⟩) (hinit : i ≠ .linkInit)
    (hreset : i ≠ .reset) : t.ls = s.ls ∨ t.ls = .read := by
  rcases exec_cases h with ⟨b, e, _, hk⟩ | ⟨_, rfl⟩ | ⟨_, rfl⟩ | ⟨rfl, _⟩ | ⟨_, rfl⟩ | ⟨rfl, _⟩
  · exact (Block.append_ls hk :)
  · exact Or.inl rfl
  · exact Or.inl rfl
  · exact absurd rfl hinit
  · exact Or.inr rfl
  · exact absurd rfl hreset

/-! ## Runs without LINK_INIT and RESET -/

/-- Steps from a block that perform neither LINK_INIT nor RESET, with the blocks they visit. -/
inductive Block.Visits : Block c → List (Block c) → Prop
  | nil (s : Block c) : s.Visits []
  | cons {s t : Block c} {us : List (Block c)} {inp : Input c} {rest : List (Input c)}
      (hpending : s.pending = inp :: rest) (hinit : decode s.esc inp.txn ≠ .linkInit)
      (hreset : decode s.esc inp.txn ≠ .reset)
      (hexec : exec (decode s.esc inp.txn) ⟨c, s.accept inp rest⟩ = .next ⟨c, t⟩) (h : t.Visits us) :
      s.Visits (t :: us)

/-- Only its own word decodes to an operation. -/
theorem decode_ne_of_ne_encode (esc : Bool) {w : Txn} {i : Instr} (h : w ≠ encode i) : decode esc w ≠ i := by
  rintro rfl
  exact h (everyWordIsOneOperation esc w).1.symm

/-- What a run without the refusal mark visits, when the offered words hold no LINK_INIT and no RESET. -/
theorem Block.visits_of_run {n : Nat} {s : Block c} {states : List State}
    (hwords : ∀ inp ∈ s.pending.take n, inp.txn ≠ 0x100 ∧ inp.txn ≠ 0x300) (hrun : run n ⟨c, s⟩ = .visited states) :
    ∃ us : List (Block c), states = us.map (State.mk c) ∧ s.Visits us := by
  induction n generalizing s states with
  | zero =>
    cases hrun
    exact ⟨[], rfl, .nil s⟩
  | succ n ih =>
    rcases run_succ_cases n ⟨c, s⟩ with ⟨t, hstep, hnext⟩ | ⟨_, _, hend⟩ | ⟨_, _, hmark⟩
    · obtain ⟨k, inp, rest, rfl, hpending, hexec⟩ := step_next_block hstep
      rw [hpending, List.take_succ_cons] at hwords
      obtain ⟨⟨hinit, hreset⟩, hrest⟩ := List.forall_mem_cons.1 hwords
      have hkeep : k.pending = rest := exec_pending hexec
      rcases hlater : run n ⟨c, k⟩ with ts | r
      · obtain ⟨us, rfl, hus⟩ := ih (hkeep ▸ hrest) hlater
        rw [hnext, hlater] at hrun
        cases hrun
        exact ⟨k :: us, rfl,
          .cons hpending (decode_ne_of_ne_encode _ hinit) (decode_ne_of_ne_encode _ hreset) hexec hus⟩
      · rw [hnext, hlater] at hrun
        cases hrun
    · cases hend.symm.trans hrun
      exact ⟨[], rfl, .nil s⟩
    · cases hmark.symm.trans hrun

/-- Each handshake leaves INIT, and nothing on the way leads back (`42_link_fsm.md` R148). -/
theorem Block.Visits.shookHands_length_le {s : Block c} {us : List (Block c)} (h : s.Visits us) :
    (us.filter fun t => t.shookHands).length ≤ if s.ls = .init then 1 else 0 := by
  induction h with
  | nil s => simp
  | @cons s t us inp rest _ hinit hreset hexec _ ih =>
    rcases hshake : t.shookHands
    · have hback : t.ls = .init → s.ls = .init := by
        rcases exec_ls_same_or_read hexec hinit hreset with hsame | hread
        · exact fun hls => hsame.symm.trans hls
        · simp [hread]
      rw [List.filter_cons_of_neg (by simp [hshake])]
      refine ih.trans ?_
      by_cases hls : t.ls = .init
      · rw [if_pos hls, if_pos (hback hls)]
      · rw [if_neg hls]
        exact Nat.zero_le _
    · obtain ⟨hbefore, hafter⟩ : s.ls = .init ∧ t.ls = .read := (exec_shookHands hexec hshake :)
      rw [List.filter_cons_of_pos hshake, List.length_cons, if_pos hbefore]
      rw [hafter] at ih
      exact Nat.succ_le_succ ih

/-- Settles O43: the run visits blocks by steps without LINK_INIT and RESET, of which one at most shakes hands. -/
theorem oneHandshakePerResetCycle : Obligations.OneHandshakePerResetCycle := by
  intro n c s hwords states hrun
  obtain ⟨us, rfl, hvisits⟩ := Block.visits_of_run hwords hrun
  rw [List.filter_map, List.length_map]
  exact hvisits.shookHands_length_le

/-! ## LINK_READ pre-empts the handshake -/

/-- No handshake, `LS = READ`, the given `EPOCH` and no command. -/
abbrev Block.StaysInRead (epoch : BitVec c.rtcW) (t : Block c) : Prop :=
  t.shookHands = false ∧ t.ls = .read ∧ t.epoch = epoch ∧ t.cmdOut = []

theorem Block.OutputsOk.cmdOut_eq_nil {t : Block c} (h : t.OutputsOk) (hshake : t.shookHands = false) :
    t.cmdOut = [] := by
  rcases h with ⟨_, hcmd, _⟩ | ⟨_, hcmd, _⟩ | ⟨hact, _, _⟩ | ⟨_, hcmd, _⟩
  case inr.inr.inl => simp [hact, Action.isHandshake] at hshake
  all_goals exact hcmd

/-- In READ an operation other than LINK_INIT and RESET stays in READ. -/
theorem exec_staysInRead {s t : Block c} {i : Instr} (h : exec i ⟨c, s⟩ = .next ⟨c, t⟩) (hinit : i ≠ .linkInit)
    (hreset : i ≠ .reset) (hread : s.ls = .read) : t.StaysInRead s.epoch := by
  have hshake : t.shookHands = false := by
    rw [Bool.eq_false_iff]
    intro hshake
    obtain ⟨hls, -⟩ := exec_shookHands h hshake
    simp [hls] at hread
  have hls : t.ls = .read := by simpa [hread] using exec_ls_same_or_read h hinit hreset
  have hepoch : t.epoch = s.epoch := by simpa [hreset, hshake] using exec_epoch h
  exact ⟨hshake, hls, hepoch, (exec_outputsOk h).cmdOut_eq_nil hshake⟩

/-- In READ the step that performs the offered operation shows the outputs of READ. -/
theorem exec_readOutputs {s t : Block c} {inp : Input c} {rest : List (Input c)} (hpending : s.pending = inp :: rest)
    (h : exec (decode s.esc inp.txn) ⟨c, s.accept inp rest⟩ = .next ⟨c, t⟩) (hread : s.ls = .read) :
    s.ReadOutputs s.epoch t := by
  obtain ⟨hframe, hother⟩ := linkStateTransitions c _ t _ h
  refine ⟨inp, rest, hpending, fun b hi hcompletes => ?_, fun hcompletes => (hother hcompletes).1⟩
  obtain ⟨hbad, hgood⟩ := hframe b hi hcompletes
  split_ifs with hverify
  · obtain ⟨-, hdeliver, -⟩ := hgood hverify
    obtain ⟨-, hact, -, hrec⟩ := hdeliver hread
    exact ⟨hact, hrec⟩
  · obtain ⟨-, hact, -, hrec⟩ := hbad (Bool.eq_false_of_not_eq_true hverify)
    exact ⟨hact, hrec⟩

/-- By induction over the steps: from READ every visited block stays in READ, with the outputs of READ. -/
theorem Block.Visits.readOutputs {s : Block c} {us : List (Block c)} (h : s.Visits us) (hread : s.ls = .read) :
    (∀ u ∈ us, u.StaysInRead s.epoch) ∧ List.IsChain (fun u v => u.ReadOutputs s.epoch v) (s :: us) := by
  induction h with
  | nil s => exact ⟨by simp, .singleton s⟩
  | @cons s t us inp rest hpending hinit hreset hexec _ ih =>
    obtain ⟨hshake, hls, hepoch, hcmd⟩ : t.StaysInRead s.epoch := (exec_staysInRead hexec hinit hreset hread :)
    obtain ⟨hall, hchain⟩ := ih hls
    rw [hepoch] at hall hchain
    exact ⟨List.forall_mem_cons.2 ⟨⟨hshake, hls, hepoch, hcmd⟩, hall⟩,
      .cons_cons (exec_readOutputs hpending hexec hread) hchain⟩

theorem step_linkRead {s : Block c} {inp : Input c} {rest : List (Input c)} (hpending : s.pending = inp :: rest)
    (hword : inp.txn = encode .linkRead) : step ⟨c, s⟩ = .next ⟨c, (s.accept inp rest).beginStep.setLs .read⟩ := by
  rw [step_offered hpending, hword, decodeUndoesEncode s.esc .linkRead rfl rfl]
  exact exec_linkRead _

/-- Settles O45: LINK_READ leaves READ, and every step of a run without LINK_INIT and RESET stays there; the signed frame
of the script verifies and so meets DELIVER. -/
theorem linkReadPreemptsTheHandshake : Obligations.LinkReadPreemptsTheHandshake := by
  refine ⟨fun c s t h n hwords states hrun => ?_, fun c s p hc hesc hp => ?_⟩
  · cases (exec_linkRead s).symm.trans h
    obtain ⟨us, rfl, hvisits⟩ := Block.visits_of_run hwords hrun
    exact ⟨us, rfl, hvisits.readOutputs rfl⟩
  · have hlen := signedFrame_length hc hp
    obtain ⟨inp, rest, hpending, hword, hrest⟩ : ∃ inp rest,
        (s.loadScript [.linkRead, .sframe p]).pending = inp :: rest ∧ inp.txn = encode .linkRead ∧
          rest = ((stuff (signedFrame c p)).map feedWord).map fun w => ⟨w, 0⟩ :=
      ⟨_, _, rfl, rfl, List.append_nil _⟩
    have hstep := step_linkRead hpending hword
    obtain ⟨before, m, hrun, -, hquiet⟩ :=
      run_stuff (s := ((s.loadScript [.linkRead, .sframe p]).accept inp rest).beginStep.setLs .read) (v := 0) hesc hlen
        (ne_nil_of_frameLen hc hlen) hrest
    refine ⟨_ :: before, _, (run_next hstep).trans (congrArg (Run.after _) hrun),
      List.forall_mem_cons.2 ⟨⟨rfl, rfl, rfl⟩, hquiet⟩, ?_⟩
    rw [Block.onFrame_read (signedFrameVerifies c p hc hp) rfl]
    exact ⟨rfl, rfl, rfl, rfl, rfl⟩

end Sys2Proof.Machine

/-! PROOFS. The frame parser (`43_frame_parser.md`): the wrap of TIME, and the bytes and bits a record depends on. -/

namespace Sys2Proof.Machine

variable {c : Config}

/-! ## TIME -/

/-- Settles O48: the addition of words is modulo `2^RTC_W`, and reducing the timestamp first does not change it. -/
theorem timeWrapsAtTheRtcWidth : Obligations.TimeWrapsAtTheRtcWidth := by
  intro n w ts epoch _
  calc (time w ts epoch).toNat
    _ = (ts.toNat % 2 ^ w + epoch.toNat) % 2 ^ w := by rw [time, BitVec.toNat_add, BitVec.toNat_setWidth]
    _ = (ts.toNat + epoch.toNat) % 2 ^ w := Nat.mod_add_mod _ _ _

/-! ## What a record depends on -/

theorem fieldBytes_congr {cf cf' : List Byte} {o w : Nat}
    (h : ∀ k < w, frameByte cf (o + k) = frameByte cf' (o + k)) : fieldBytes cf o w = fieldBytes cf' o w :=
  List.map_congr_left fun k hk => h k (List.mem_range.1 hk)

theorem spanValue_congr {cf cf' : List Byte} {f : FieldSpan}
    (h : ∀ k < f.width, frameByte cf (f.offset + k) = frameByte cf' (f.offset + k)) :
    spanValue c cf f = spanValue c cf' f := by
  rw [spanValue, spanValue, fieldValue, fieldValue, fieldBytes_congr h]

/-- Settles O49: each carried field is a `spanValue` of its own bytes, `time` with the same epoch added, and the two
flags are bits the frames agree on. -/
theorem recordDependsOnCarriedFieldsOnly : Obligations.RecordDependsOnCarriedFieldsOnly := by
  intro c cf cf' epoch hfields hflags
  have hspans : ∀ f ∈ [c.layout.voltage, c.layout.current, c.layout.phase, c.layout.temperature, c.layout.timestamp,
      c.layout.error], spanValue c cf f = spanValue c cf' f := fun f hf => spanValue_congr (hfields f hf)
  simp only [List.forall_mem_cons] at hspans
  obtain ⟨hvoltage, hcurrent, hphase, htemperature, htimestamp, herror, -⟩ := hspans
  have hoccupancy : occupancyFlag c cf = occupancyFlag c cf' := hflags c.occBit (.inl rfl)
  have hrelay : relayFlag c cf = relayFlag c cf' := hflags c.relayBit (.inr rfl)
  rw [parse, parse, hoccupancy, hrelay, hvoltage, hcurrent, hphase, htemperature, htimestamp, herror]

end Sys2Proof.Machine

/-! PROOFS. The refusal (`60_exceptions.md`): the operations of the reserved rows. -/

namespace Sys2Proof.Machine

/-- Settles O6: both rows are reserved, and the operations of the reserved rows are refused. -/
theorem reservedOperationsAreRefused : Obligations.ReservedOperationsAreRefused := by
  intro s k d
  exact ⟨(exec_refused_iff (.reservedKind k d) s.blk).2 rfl, (exec_refused_iff (.reservedData k d) s.blk).2 rfl⟩

end Sys2Proof.Machine

/-! PROOFS. A line of zero bytes (`70_reset_and_hazards.md` R232): the check and the record of the zero frame. -/

namespace Sys2Proof.Machine

variable {c : Config}

/-! ## The check of a zero frame -/

theorem frameByte_replicate_zero (n i : Nat) : frameByte (List.replicate n 0) i = 0 := by
  rw [frameByte]
  rcases Nat.lt_or_ge i n with h | h
  · exact List.getD_replicate 0 h
  · exact List.getD_eq_default _ _ (by simpa using h)

theorem crc16_replicate_zero (n : Nat) : crc16 (List.replicate n 0) = 0 := by
  induction n with
  | zero => exact crc16_nil
  | succ n ih =>
    rw [List.replicate_succ', crc16_concat, ih]
    rfl

theorem storedCrc_replicate_zero (n : Nat) : storedCrc c (List.replicate n 0) = 0 := by
  rcases horder : c.crcOrder with _ | _
  · rw [storedCrc_le _ horder, frameByte_replicate_zero, frameByte_replicate_zero]
    rfl
  · rw [storedCrc_be _ horder, frameByte_replicate_zero, frameByte_replicate_zero]
    rfl

theorem verify_replicate_zero (n : Nat) : verify c (List.replicate n 0) = true := by
  rw [verify, covered, List.take_replicate, crc16_replicate_zero, storedCrc_replicate_zero]
  exact beq_self_eq_true _

/-! ## The record of a zero frame -/

theorem fieldBytes_replicate_zero (n o w : Nat) : fieldBytes (List.replicate n 0) o w = List.replicate w 0 := by
  simp only [fieldBytes, frameByte_replicate_zero, List.map_const', List.length_range]

theorem littleEndian_replicate_zero (w : Nat) : littleEndian (List.replicate w 0) = 0 := by
  induction w with
  | zero => rfl
  | succ w ih =>
    rw [List.replicate_succ, littleEndian, ih]
    rfl

theorem orderedValue_replicate_zero (order : ByteOrder) (w : Nat) : orderedValue order (List.replicate w 0) = 0 := by
  cases order with
  | le => exact littleEndian_replicate_zero w
  | be => exact (congrArg littleEndian List.reverse_replicate).trans (littleEndian_replicate_zero w)

theorem spanValue_replicate_zero (n : Nat) (f : FieldSpan) : spanValue c (List.replicate n 0) f = 0 := by
  rw [spanValue, fieldValue, fieldBytes_replicate_zero, orderedValue_replicate_zero]
  rfl

theorem flagsByte_replicate_zero (n : Nat) : flagsByte c (List.replicate n 0) = 0 :=
  frameByte_replicate_zero n _

theorem occupancyFlag_replicate_zero (n : Nat) : occupancyFlag c (List.replicate n 0) = false := by
  rw [occupancyFlag, flagsByte_replicate_zero]
  exact BitVec.getLsbD_zero

theorem relayFlag_replicate_zero (n : Nat) : relayFlag c (List.replicate n 0) = false := by
  rw [relayFlag, flagsByte_replicate_zero]
  exact BitVec.getLsbD_zero

/-- A timestamp of 0 leaves the epoch as the time (`43_frame_parser.md` R163). -/
theorem time_zero {n w : Nat} (epoch : BitVec w) : time w (0 : BitVec n) epoch = epoch := by
  rw [time, BitVec.ofNat_eq_ofNat, BitVec.setWidth_zero, BitVec.zero_add]

theorem parse_replicate_zero (n : Nat) (epoch : BitVec c.rtcW) :
    parse c (List.replicate n 0) epoch =
      { occupancy := false, relay := false, voltage := 0, current := 0, phase := 0, temperature := 0, time := epoch,
        error := 0 } := by
  simp only [parse, occupancyFlag_replicate_zero, relayFlag_replicate_zero, spanValue_replicate_zero, time_zero]

/-- Settles O33: CRC_STEP takes 0 and a zero byte to 0, so the CRC of the covered bytes is the stored one; each field is
a number with zero bytes, and `time` adds the epoch to 0. -/
theorem zeroFrameIsValid : Obligations.ZeroFrameIsValid :=
  fun c epoch _ => ⟨verify_replicate_zero c.frameLen, parse_replicate_zero c.frameLen epoch⟩

end Sys2Proof.Machine

/-! PROOFS. A step with nothing offered (`10_state.md` R26; the model's choice, log entry 4). -/

namespace Sys2Proof.Machine

/-- Settles O9: no transaction can be taken from an empty list of inputs (`step_empty`). -/
theorem nothingOfferedStops : Obligations.NothingOfferedStops :=
  fun _ hpending => step_empty hpending

end Sys2Proof.Machine
